-- ==== Sys2Proof/Word.lean ====
section
/-! DEFINITION. The widths of the block's data. -/

namespace Sys2Proof

/-- A byte of the stream (00_scope.md R8). -/
abbrev Byte := BitVec 8

/-- A 16-bit field. -/
abbrev Half := BitVec 16

/-- A 32-bit field. -/
abbrev Word := BitVec 32

end Sys2Proof
end

