-- ==== Sys2Proof/Machine/Checksum.lean ====
section
/-! DEFINITION. The checksum accumulator and comparator (42_checksum.md). -/

namespace Sys2Proof.Machine

/-- R180: the value `acc` is cleared to. -/
def checksumClear : Byte := 0x00#8

/-- R181: one payload byte accumulated. -/
def checksumAccumulate (acc b : Byte) : Byte := acc ^^^ b

/-- R182: `Checksum(p) = fold xor 0x00 p`. -/
def checksum (p : List Byte) : Byte := p.foldl checksumAccumulate checksumClear

/-- R183: the compare of the byte read with `acc`, over all 8 bits. -/
def checksumMatch (b acc : Byte) : Bool := b == acc

end Sys2Proof.Machine
end

