-- ==== Sys2Proof/Machine/Operands.lean ====
section
/-! DEFINITION. The operand forms of 30_encoding.md R83: how a field is assembled from the payload, and
which integer it reads as. Little-endian throughout (20_memory.md R52). -/

namespace Sys2Proof.Machine

/-- `buf[i]`: payload byte `i`. Only offsets below the payload's length are ever asked for
(Decode.lean checks the length first). -/
def byteAt (p : List Byte) (i : Nat) : Byte := p.getD i 0

/-- `LE16(i) = buf[i+1] ++ buf[i]` (20_memory.md R52). -/
def le16 (p : List Byte) (i : Nat) : Half := byteAt p (i + 1) ++ byteAt p i

/-- `LE32(i) = buf[i+3] ++ buf[i+2] ++ buf[i+1] ++ buf[i]` (20_memory.md R52). -/
def le32 (p : List Byte) (i : Nat) : Word :=
  byteAt p (i + 3) ++ byteAt p (i + 2) ++ byteAt p (i + 1) ++ byteAt p i

/-- `bits(i, hi, lo) = buf[i][hi:lo]`. -/
def bitsAt (p : List Byte) (i hi lo : Nat) : BitVec (hi - lo + 1) := (byteAt p i).extractLsb hi lo

/-- The two bytes of a 16-bit field, in wire order. -/
def bytes16 (v : Half) : List Byte := [v.extractLsb' 0 8, v.extractLsb' 8 8]

/-- The four bytes of a 32-bit field, in wire order. -/
def bytes32 (v : Word) : List Byte :=
  [v.extractLsb' 0 8, v.extractLsb' 8 8, v.extractLsb' 16 8, v.extractLsb' 24 8]

/-- The six operand forms. -/
inductive Form where
  | u8
  | i8
  | u16
  | i16
  | i32
  | bits (hi lo : Nat)
deriving DecidableEq, Repr

/-- The integer a form reads at payload offset `i`: `toNat` for the unsigned forms, `toInt_N`
(two's complement) for the signed ones. -/
def Form.read (f : Form) (p : List Byte) (i : Nat) : Int :=
  match f with
  | .u8 => (byteAt p i).toNat
  | .i8 => (byteAt p i).toInt
  | .u16 => (le16 p i).toNat
  | .i16 => (le16 p i).toInt
  | .i32 => (le32 p i).toInt
  | .bits hi lo => (bitsAt p i hi lo).toNat

/-- How many payload bytes a form reads. -/
def Form.bytes : Form → Nat
  | .u8 | .i8 | .bits _ _ => 1
  | .u16 | .i16 => 2
  | .i32 => 4

end Sys2Proof.Machine
end

