-- ==== Sys2Proof/Config.lean ====
section
/-! DEFINITION. The parameters of the block (00_scope.md R6, R48): those the spec decides have their
value, those it leaves OPEN are constants without a body (log entries 6 and 7). -/

namespace Sys2Proof.Config

/-- The three readings of the Status flag defect (41_frame_decoders.md R135). -/
inductive StatusFlagMode where
  | preserveLast
  | preserveOr
  | corrected
deriving DecidableEq, Repr, Inhabited

/-- `STATUS_FLAG_MODE`, OPEN (D13). -/
opaque statusFlagMode : StatusFlagMode

/-- `GPSMODE_MAX`, OPEN, a byte value (D14). -/
opaque gpsModeMax : Byte

/-- `NAVMODE_MAX`, OPEN, a byte value (D14). -/
opaque navModeMax : Byte

/-- `NAVACTION_MAX`, OPEN, a byte value (D14). -/
opaque navActionMax : Byte

/-- `NAVERROR_MAX`, OPEN, a byte value (D14). -/
opaque navErrorMax : Byte

/-- `STATUS_MAX` = 21, the largest in-range flight status. -/
def statusMax : Nat := 21

/-- `CNT_W` = 32, the width of each event counter (D6). -/
abbrev cntW : Nat := 32

/-- `MALFORMED_ON_EMPTY_EOS` = true (D5). -/
def malformedOnEmptyEos : Bool := true

/-- `MAXLEN` = 14, the largest payload length of any kind. -/
abbrev maxLen : Nat := 14

end Sys2Proof.Config
end

