-- ==== Sys2Proof/Syntax.lean ====
section
/-! DEFINITION. What the block reads: symbols (10_state.md R40), and frames, its instructions
(30_encoding.md), one constructor per row of the opcode table with the fields of its wire layout. -/

namespace Sys2Proof

/-- One result of `StreamRead()` (10_state.md R40, 00_scope.md R9). -/
inductive Symbol where
  | byte (b : Byte)
  | endOfStream
  | readError
deriving DecidableEq, Repr

/-- The seven frame kinds of the registry (30_encoding.md R79). -/
inductive FrameKind where
  | gps
  | altitude
  | status
  | origin
  | navigation
  | gpsExtended
  | tuning
deriving DecidableEq, Repr

/-- A frame: its kind, the fields of its payload in wire order (30_encoding.md R72 to R78; the GPS fields
in the order of the offsets 0, 4, 8, 9, 13), bits that no field names as `unused` (R81), and its checksum
byte `ck` (R71). A frame is carried on the wire by `encode` (Decode.lean). -/
inductive Instr where
  | gps (lat lon : Word) (groundSpeed : Byte) (alt : Word) (fix : BitVec 2) (sats : BitVec 6) (ck : Byte)
  | altitude (pitch roll heading : Half) (ck : Byte)
  | status (vbat consumed : Half) (rssi airspeed statusRaw : Byte) (ck : Byte)
  | origin (lat lon alt : Word) (osdOn : BitVec 1) (unused : BitVec 7) (fix : Byte) (ck : Byte)
  | navigation (gpsMode navMode navAction waypoint navError flags : Byte) (ck : Byte)
  | gpsExtended (hdop : Half) (hwStatus ltmxCounter disarmReason unused : Byte) (ck : Byte)
  | tuning (ck : Byte)
deriving DecidableEq, Repr

end Sys2Proof
end

