-- ==== Sys2Proof/Decode.lean ====
section
/-! DEFINITION. The registry, the decoder from wire bytes to frames, and the encoder (30_encoding.md). -/

namespace Sys2Proof

open Sys2Proof.Machine

/-- The sentinel `'$'` (30_encoding.md R70). -/
def sentinel : Byte := 0x24#8

/-- The header `'T'` (30_encoding.md R70). -/
def header : Byte := 0x54#8

/-- The tag byte of each kind (30_encoding.md R70, R72 to R78). -/
def FrameKind.tag : FrameKind → Byte
  | .gps => 0x47#8
  | .altitude => 0x41#8
  | .status => 0x53#8
  | .origin => 0x4F#8
  | .navigation => 0x4E#8
  | .gpsExtended => 0x58#8
  | .tuning => 0x54#8

/-- The registry: the kind a tag byte selects, none for an unknown tag (30_encoding.md R79, R80). -/
def kindOf (b : Byte) : Option FrameKind :=
  if b = 0x47#8 then some .gps
  else if b = 0x41#8 then some .altitude
  else if b = 0x53#8 then some .status
  else if b = 0x4F#8 then some .origin
  else if b = 0x4E#8 then some .navigation
  else if b = 0x58#8 then some .gpsExtended
  else if b = 0x54#8 then some .tuning
  else none

/-- `KNOWN(b)` (30_encoding.md R79). -/
def known (b : Byte) : Bool := (kindOf b).isSome

/-- `LEN` of a kind's tag (30_encoding.md R79). There is no value for an unknown tag (I3). -/
def FrameKind.len : FrameKind → Nat
  | .gps => 14
  | .altitude => 6
  | .status => 7
  | .origin => 14
  | .navigation => 6
  | .gpsExtended => 6
  | .tuning => 0

/-- The frame of kind `k` with payload `p` and checksum byte `ck`: each field from its form and offset
(30_encoding.md R72 to R78, R83). -/
def FrameKind.frame (k : FrameKind) (p : List Byte) (ck : Byte) : Instr :=
  match k with
  | .gps => .gps (le32 p 0) (le32 p 4) (byteAt p 8) (le32 p 9) (bitsAt p 13 1 0) (bitsAt p 13 7 2) ck
  | .altitude => .altitude (le16 p 0) (le16 p 2) (le16 p 4) ck
  | .status => .status (le16 p 0) (le16 p 2) (byteAt p 4) (byteAt p 5) (byteAt p 6) ck
  | .origin => .origin (le32 p 0) (le32 p 4) (le32 p 8) (bitsAt p 12 0 0) (bitsAt p 12 7 1) (byteAt p 13) ck
  | .navigation => .navigation (byteAt p 0) (byteAt p 1) (byteAt p 2) (byteAt p 3) (byteAt p 4) (byteAt p 5) ck
  | .gpsExtended => .gpsExtended (le16 p 0) (byteAt p 2) (byteAt p 3) (byteAt p 4) (byteAt p 5) ck
  | .tuning => .tuning ck

/-- The frame with this tag, this payload and this checksum byte: none unless the tag is known and the
payload has exactly `LEN(tag)` bytes (41_frame_decoders.md R130). -/
def frameOf (tag : Byte) (p : List Byte) (ck : Byte) : Option Instr :=
  match kindOf tag with
  | none => none
  | some k => if p.length = k.len then some (k.frame p ck) else none

/-- Why bytes are not a frame. -/
inductive DecodeError where
  /-- The first byte is missing or is not `'$'` (30_encoding.md R82). -/
  | noSentinel
  /-- The second byte is missing or is not `'T'` (30_encoding.md R82). -/
  | noHeader
  /-- The bytes end before the tag. -/
  | noTag
  /-- The tag byte is none of the seven (30_encoding.md R80). -/
  | unknownTag
  /-- The bytes end inside the payload (60_exceptions.md R203). -/
  | shortPayload
  /-- The bytes end before the checksum byte (70_reset_and_hazards.md R243). -/
  | noChecksum
deriving DecidableEq, Repr

/-- The frame that begins at its tag byte, and the bytes after it. The length is told by the tag alone
(30_encoding.md R84). Any checksum byte is accepted here: a wrong one is not an illegal encoding (R82). -/
def decodeFromTag (bs : List Byte) : Except DecodeError (Instr × List Byte) :=
  match bs with
  | [] => .error .noTag
  | tag :: body =>
    match kindOf tag with
    | none => .error .unknownTag
    | some k =>
      if body.length < k.len then .error .shortPayload
      else
        match body.drop k.len with
        | [] => .error .noChecksum
        | ck :: rest => .ok (k.frame (body.take k.len) ck, rest)

/-- The frame at the head of a byte sequence, and the bytes after it (30_encoding.md R71). -/
def decode (bs : List Byte) : Except DecodeError (Instr × List Byte) :=
  match bs with
  | [] => .error .noSentinel
  | b0 :: bs1 =>
    if b0 ≠ sentinel then .error .noSentinel
    else
      match bs1 with
      | [] => .error .noHeader
      | b1 :: bs2 => if b1 ≠ header then .error .noHeader else decodeFromTag bs2

/-! ### The encoder -/

/-- The kind of a frame. -/
def Instr.kind : Instr → FrameKind
  | .gps .. => .gps
  | .altitude .. => .altitude
  | .status .. => .status
  | .origin .. => .origin
  | .navigation .. => .navigation
  | .gpsExtended .. => .gpsExtended
  | .tuning .. => .tuning

/-- The checksum byte of a frame. -/
def Instr.ck : Instr → Byte
  | .gps _ _ _ _ _ _ ck => ck
  | .altitude _ _ _ ck => ck
  | .status _ _ _ _ _ ck => ck
  | .origin _ _ _ _ _ _ ck => ck
  | .navigation _ _ _ _ _ _ ck => ck
  | .gpsExtended _ _ _ _ _ ck => ck
  | .tuning ck => ck

/-- GPS payload layout (30_encoding.md R72). -/
def gpsPayload (lat lon : Word) (groundSpeed : Byte) (alt : Word) (fix : BitVec 2) (sats : BitVec 6) : List Byte :=
  bytes32 lat ++ bytes32 lon ++ [groundSpeed] ++ bytes32 alt ++ [sats ++ fix]

/-- Altitude payload layout (30_encoding.md R73). -/
def altitudePayload (pitch roll heading : Half) : List Byte :=
  bytes16 pitch ++ bytes16 roll ++ bytes16 heading

/-- Status payload layout (30_encoding.md R74). -/
def statusPayload (vbat consumed : Half) (rssi airspeed statusRaw : Byte) : List Byte :=
  bytes16 vbat ++ bytes16 consumed ++ [rssi, airspeed, statusRaw]

/-- Origin payload layout (30_encoding.md R75, R81). -/
def originPayload (lat lon alt : Word) (osdOn : BitVec 1) (unused : BitVec 7) (fix : Byte) : List Byte :=
  bytes32 lat ++ bytes32 lon ++ bytes32 alt ++ [unused ++ osdOn, fix]

/-- Navigation payload layout (30_encoding.md R76). -/
def navigationPayload (gpsMode navMode navAction waypoint navError flags : Byte) : List Byte :=
  [gpsMode, navMode, navAction, waypoint, navError, flags]

/-- GPS-Extended payload layout (30_encoding.md R77, R81). -/
def gpsExtendedPayload (hdop : Half) (hwStatus ltmxCounter disarmReason unused : Byte) : List Byte :=
  bytes16 hdop ++ [hwStatus, ltmxCounter, disarmReason, unused]

/-- The payload bytes of a frame. -/
def Instr.payload : Instr → List Byte
  | .gps lat lon gs alt fix sats _ => gpsPayload lat lon gs alt fix sats
  | .altitude pitch roll heading _ => altitudePayload pitch roll heading
  | .status vbat consumed rssi airspeed statusRaw _ => statusPayload vbat consumed rssi airspeed statusRaw
  | .origin lat lon alt osdOn unused fix _ => originPayload lat lon alt osdOn unused fix
  | .navigation gm nm na wp ne flags _ => navigationPayload gm nm na wp ne flags
  | .gpsExtended hdop hw ctr dr unused _ => gpsExtendedPayload hdop hw ctr dr unused
  | .tuning _ => []

/-- `BADFRAME(c, p; k)`: the bytes of a frame with a given checksum byte (30_encoding.md R87). -/
def badFrameBytes (c : Byte) (p : List Byte) (k : Byte) : List Byte := sentinel :: header :: c :: p ++ [k]

/-- `FRAME(c, p)`: the same with the checksum of the payload (30_encoding.md R87). -/
def frameBytes (c : Byte) (p : List Byte) : List Byte := badFrameBytes c p (checksum p)

/-- The wire bytes of a frame (30_encoding.md R71). -/
def encode (i : Instr) : List Byte := badFrameBytes i.kind.tag i.payload i.ck

/-! ### The opcode table's numbering -/

/-- The `n` lowest bytes of a number, least significant first. -/
def lowBytes : Nat → Nat → List Byte
  | 0, _ => []
  | n + 1, w => BitVec.ofNat 8 w :: lowBytes n (w / 256)

/-- The bytes an opcode-table word stands for: the table numbers a frame from its TAG byte (its mask is the
tag's), so the word's byte 0 is the tag, then come the payload bytes, then the checksum byte; bits above
`nbits` are 0. Sixteen bytes hold the longest frame (log entry 5). -/
def tableBytes (nbits w : Nat) : List Byte := lowBytes (Config.maxLen + 2) (w % 2 ^ nbits)

/-- The frame an opcode-table word decodes to. -/
def decodeTableWord (nbits w : Nat) : Option Instr :=
  match decodeFromTag (tableBytes nbits w) with
  | .ok (i, _) => some i
  | .error _ => none

end Sys2Proof
end

