-- ==== Sys2Proof/Machine/Codes.lean ====
section
/-! DEFINITION. The encodings of the status registers: `state` (10_state.md R20), `term_cause` (R27) and
`ev_code` (60_exceptions.md R201). The registers hold the codes; the types here name them. -/

namespace Sys2Proof.Machine

/-- The six framing states (10_state.md R20). -/
inductive Phase where
  | sent
  | hdr
  | type
  | pay
  | cks
  | done
deriving DecidableEq, Repr

/-- The 3-bit encoding of a framing state (10_state.md R20). -/
def Phase.code : Phase → BitVec 3
  | .sent => 0#3
  | .hdr => 1#3
  | .type => 2#3
  | .pay => 3#3
  | .cks => 4#3
  | .done => 5#3

/-- The framing state a code names; none for 6 and 7 (40_sync_fsm.md R113). -/
def Phase.ofCode (c : BitVec 3) : Option Phase :=
  if c = 0#3 then some .sent
  else if c = 1#3 then some .hdr
  else if c = 2#3 then some .type
  else if c = 3#3 then some .pay
  else if c = 4#3 then some .cks
  else if c = 5#3 then some .done
  else none

/-- Why the parse ended (10_state.md R27). -/
inductive TermCause where
  | running
  | streamEnd
  | streamError
deriving DecidableEq, Repr

/-- The 2-bit encoding of a cause: `NONE` 0, `END` 1, `ERROR` 2; 3 is unused (10_state.md R27). -/
def TermCause.code : TermCause → BitVec 2
  | .running => 0#2
  | .streamEnd => 1#2
  | .streamError => 2#2

/-- The events (60_exceptions.md R200). -/
inductive Event where
  | noEvent
  | frameOk
  | unknownTag
  | cksumFail
  | malformedEnd
  | terminated
deriving DecidableEq, Repr

/-- The 3-bit event code; 6 and 7 are unused (60_exceptions.md R201). -/
def Event.code : Event → BitVec 3
  | .noEvent => 0#3
  | .frameOk => 1#3
  | .unknownTag => 2#3
  | .cksumFail => 3#3
  | .malformedEnd => 4#3
  | .terminated => 5#3

end Sys2Proof.Machine
end

