-- ==== Sys2Proof/Machine/State.lean ====
section
/-! DEFINITION. The state of the block: every register of 10_state.md, the frame output register, the
event strobe, and the input stream. Plain data. -/

namespace Sys2Proof.Machine

/-- An element of `frames`: the tag and the payload of a validated frame (10_state.md R33). -/
structure Frame where
  tag : Byte
  payload : List Byte
deriving DecidableEq, Repr

/-- The Position shape shared by GPS and Origin records (41_frame_decoders.md R131). -/
structure Position where
  lat : Word
  lon : Word
  alt : Word
deriving DecidableEq, Repr

/-- GPS record (41_frame_decoders.md R132). -/
structure GpsRecord where
  pos : Position
  groundSpeed : Byte
  fix : BitVec 2
  sats : BitVec 6
deriving DecidableEq, Repr

/-- Altitude record (41_frame_decoders.md R133). -/
structure AltitudeRecord where
  pitch : Half
  roll : Half
  heading : Half
deriving DecidableEq, Repr

/-- Status record (41_frame_decoders.md R134). -/
structure StatusRecord where
  vbat : Half
  consumed : Half
  rssi : Byte
  airspeed : Byte
  statusRaw : Byte
  flightStatus : BitVec 6
  flightStatusKnown : Bool
  armed : Bool
  failsafe : Bool
deriving DecidableEq, Repr

/-- Origin record (41_frame_decoders.md R136). -/
structure OriginRecord where
  pos : Position
  osdOn : BitVec 1
  fix : Byte
deriving DecidableEq, Repr

/-- Navigation record (41_frame_decoders.md R137). -/
structure NavigationRecord where
  gpsMode : Byte
  navMode : Byte
  navAction : Byte
  waypoint : Byte
  navError : Byte
  flags : Byte
  gpsModeKnown : Bool
  navModeKnown : Bool
  navActionKnown : Bool
  navErrorKnown : Bool
deriving DecidableEq, Repr

/-- GPS-Extended record (41_frame_decoders.md R138). -/
structure GpsExtendedRecord where
  hdop : Half
  hwStatus : Byte
  ltmxCounter : Byte
  disarmReason : Byte
deriving DecidableEq, Repr

/-- A decoded record, one variant per kind (41_frame_decoders.md R130); the Tuning record is empty (R139).
Every field has the width of R142. -/
inductive FrameRecord where
  | gps (r : GpsRecord)
  | altitude (r : AltitudeRecord)
  | status (r : StatusRecord)
  | origin (r : OriginRecord)
  | navigation (r : NavigationRecord)
  | gpsExtended (r : GpsExtendedRecord)
  | tuning
deriving DecidableEq, Repr

/-- What the frame output register holds: a validated frame and its record (10_state.md R43). -/
structure HeldFrame where
  frame : Frame
  record : FrameRecord
deriving DecidableEq, Repr

/-- The block's state, with the input stream it has not read yet. -/
structure State where
  /-- `state`, 10_state.md R20. -/
  state : BitVec 3
  /-- `tag`, R22. -/
  tag : Byte
  /-- `len`, R23. -/
  len : BitVec 4
  /-- `idx`, R24. -/
  idx : BitVec 4
  /-- `buf[0..13]`, R25. -/
  buf : Vector Byte Config.maxLen
  /-- `acc`, R26. -/
  acc : Byte
  /-- `term_cause`, R27. -/
  termCause : BitVec 2
  /-- `cnt_unknown`, R30. -/
  cntUnknown : BitVec Config.cntW
  /-- `cnt_malformed`, R31. -/
  cntMalformed : BitVec Config.cntW
  /-- `cnt_cksum`, R32. -/
  cntCksum : BitVec Config.cntW
  /-- `frames`, R33. -/
  frames : List Frame
  /-- `ev_code`, R35. -/
  evCode : BitVec 3
  /-- `ev_valid`, R45. -/
  evValid : Bool
  /-- The frame output register, `fo_valid` with what it offers, R43 and R47. -/
  fo : Option HeldFrame
  /-- The symbols the stream has still to give, 20_memory.md R50. -/
  input : List Symbol
deriving DecidableEq, Repr

/-- The machine stops with no rule to apply. -/
inductive Fault where
  /-- Raised by a payload byte in `S_PAY` when `idx >= len` or `idx` is no index of `buf`: none of the rules of
  40_sync_fsm.md R100 applies. No run from reset reaches it (10_state.md R24). Safe: the model stops. -/
  | payloadIndex
deriving DecidableEq, Repr

/-- The model gives no step. -/
inductive Refusal where
  /-- An instruction without a meaning in this model; raised by no arm. Safe. -/
  | notModelled (mnemonic : String)
  /-- `state` holds 6 or 7, raised by every step of such a state (40_sync_fsm.md R113, I1). Safe. -/
  | illegalState
  /-- `term_cause` holds 3, raised by every step of such a state (I2). Safe. -/
  | illegalTermCause
  /-- `ev_code` holds 6 or 7, raised by every step of such a state (I2). Safe. -/
  | illegalEventCode
  /-- A matching checksum byte while `tag` is unknown (I3), or, by the model's choice, while `len` is not `LEN(tag)`
  (log entry 8): 41_frame_decoders.md R130 defines no record. No run from reset reaches it. Safe. -/
  | noRecord
  /-- A symbol handed to a block in `S_DONE`: there is no such step (40_sync_fsm.md R109). Raised by
  `transact` alone; `cycle` and `step` leave the symbol with the producer. Safe. -/
  | parseEnded
deriving DecidableEq, Repr

/-- The state right after reset (70_reset_and_hazards.md R230), with nothing offered on the input yet
(log entry 2). -/
def State.reset : State where
  state := Phase.code .sent
  tag := 0x00#8
  len := 0#4
  idx := 0#4
  buf := Vector.replicate Config.maxLen 0x00#8
  acc := 0x00#8
  termCause := TermCause.code .running
  cntUnknown := 0
  cntMalformed := 0
  cntCksum := 0
  frames := []
  evCode := Event.code .noEvent
  evValid := false
  fo := none
  input := []

end Sys2Proof.Machine
end

