-- ==== Sys2Proof/Machine/Flags.lean ====
section
/-! DEFINITION. The flags: `done` of the block (10_state.md R28) and the flag bits of records
(41_frame_decoders.md R135, R141). -/

namespace Sys2Proof.Machine

/-- `done` is `state = S_DONE` (10_state.md R28). -/
def State.done (s : State) : Bool := s.state == Phase.code .done

/-- `armed` of `StatusFlags(s)` (41_frame_decoders.md R135). -/
def armedFlag (mode : Config.StatusFlagMode) (statusRaw : Byte) : Bool :=
  match mode with
  | .preserveLast => statusRaw.getLsbD 1
  | .preserveOr => statusRaw.getLsbD 0 || statusRaw.getLsbD 1
  | .corrected => statusRaw.getLsbD 0

/-- `failsafe` of `StatusFlags(s)` (41_frame_decoders.md R135). -/
def failsafeFlag (mode : Config.StatusFlagMode) (statusRaw : Byte) : Bool :=
  match mode with
  | .preserveLast => false
  | .preserveOr => false
  | .corrected => statusRaw.getLsbD 1

/-- `known = (value <= MAX)` of a bounded enumeration (41_frame_decoders.md R141). -/
def enumKnown (value max : Nat) : Bool := decide (value ≤ max)

end Sys2Proof.Machine
end

