-- ==== Sys2Proof/Machine/Ops.lean ====
section
/-! DEFINITION. The operations every rule is written with: reading the payload buffer, storing a payload
byte, the counters, raising an event, emitting a frame, and closing a frame at its checksum byte. -/

namespace Sys2Proof.Machine

open Host (Outcome)

/-- The codes a step refuses: 6 and 7 in `state` (40_sync_fsm.md R113), 3 in `term_cause`, 6 and 7 in
`ev_code` (I2). -/
def State.illegal (s : State) : Option Refusal :=
  if 5 < s.state.toNat then some .illegalState
  else if s.termCause = 3#2 then some .illegalTermCause
  else if 5 < s.evCode.toNat then some .illegalEventCode
  else none

/-- `buf[0..len-1]` (10_state.md R33). -/
def State.payload (s : State) : List Byte := s.buf.toList.take s.len.toNat

/-- `buf[idx] <- b` and the accumulation of `b` (40_sync_fsm.md R110, 42_checksum.md R181). -/
def storePayloadByte (b : Byte) (s : State) : State :=
  { s with
    buf := s.buf.setIfInBounds s.idx.toNat b
    acc := checksumAccumulate s.acc b
    idx := s.idx + 1#4 }

/-- Raising an event: the one thing every event does is to name itself in `ev_code`, strobe `ev_valid`
unless it is `EV_NONE`, and move `state`; nothing is saved (60_exceptions.md R201, R208, 10_state.md R35, R45). -/
def raise (e : Event) (target : Phase) (s : State) : State :=
  { s with
    state := target.code
    evCode := e.code
    evValid := e != .noEvent }

/-- A step without an event (60_exceptions.md R201). -/
def goTo (target : Phase) (s : State) : State := raise .noEvent target s

/-- `c <- c + 1 mod 2^CNT_W` (60_exceptions.md R206). -/
def bump (c : BitVec Config.cntW) : BitVec Config.cntW := c + 1

/-- The unknown-tag event (60_exceptions.md R202). -/
def raiseUnknownTag (s : State) : State :=
  raise .unknownTag .sent { s with cntUnknown := bump s.cntUnknown }

/-- The checksum-failure event (60_exceptions.md R204, 40_sync_fsm.md R107). -/
def raiseCksumFail (s : State) : State :=
  raise .cksumFail .sent { s with cntCksum := bump s.cntCksum }

/-- The malformed event, which ends the parse (60_exceptions.md R203, 40_sync_fsm.md R112). -/
def raiseMalformedEnd (cause : TermCause) (s : State) : State :=
  raise .malformedEnd .done { s with cntMalformed := bump s.cntMalformed, termCause := cause.code }

/-- Termination (60_exceptions.md R205, 40_sync_fsm.md R108). -/
def raiseTerminated (cause : TermCause) (s : State) : State :=
  raise .terminated .done { s with termCause := cause.code }

/-- `Emit(f)`: append to `frames` and load the output register (10_state.md R33, R43). -/
def emit (f : Frame) (r : FrameRecord) (s : State) : State :=
  { s with
    frames := s.frames ++ [f]
    fo := some ⟨f, r⟩ }

/-- The frame-ok event (40_sync_fsm.md R106). -/
def raiseFrameOk (f : Frame) (r : FrameRecord) (s : State) : State :=
  raise .frameOk .sent (emit f r s)

/-- The end of a frame: its checksum byte `ck` is compared with `acc` (42_checksum.md R183); equal emits
the frame (40_sync_fsm.md R106), unequal drops and counts it (R107). -/
def closeFrame (f : Frame) (r : FrameRecord) (ck : Byte) (s : State) : Outcome State Fault Refusal :=
  if checksumMatch ck s.acc then .next (raiseFrameOk f r s) else .next (raiseCksumFail s)

/-- Reset of the block (70_reset_and_hazards.md R230, R231): every register at its reset value. The stream
belongs to the producer and stays (log entry 12). -/
def resetBlock (s : State) : State := { State.reset with input := s.input }

end Sys2Proof.Machine
end

