-- ==== Sys2Proof/Machine/Decoders.lean ====
section
/-! DEFINITION. The seven decoders: the record of a frame (41_frame_decoders.md R130 to R139). -/

namespace Sys2Proof.Machine

/-- GPS record (R132). -/
def gpsRecord (lat lon : Word) (groundSpeed : Byte) (alt : Word) (fix : BitVec 2) (sats : BitVec 6) : FrameRecord :=
  .gps { pos := ⟨lat, lon, alt⟩, groundSpeed := groundSpeed, fix := fix, sats := sats }

/-- Altitude record (R133). -/
def altitudeRecord (pitch roll heading : Half) : FrameRecord :=
  .altitude { pitch := pitch, roll := roll, heading := heading }

/-- Status record in a flag mode (R134, R135). -/
def statusRecordIn (mode : Config.StatusFlagMode) (vbat consumed : Half) (rssi airspeed statusRaw : Byte) : StatusRecord where
  vbat := vbat
  consumed := consumed
  rssi := rssi
  airspeed := airspeed
  statusRaw := statusRaw
  flightStatus := statusRaw.extractLsb 7 2
  flightStatusKnown := enumKnown (statusRaw.extractLsb 7 2).toNat Config.statusMax
  armed := armedFlag mode statusRaw
  failsafe := failsafeFlag mode statusRaw

/-- Status record of the block, in its OPEN flag mode (R134). -/
def statusRecord (vbat consumed : Half) (rssi airspeed statusRaw : Byte) : FrameRecord :=
  .status (statusRecordIn Config.statusFlagMode vbat consumed rssi airspeed statusRaw)

/-- Origin record (R136); `unused` is not decoded (30_encoding.md R81). -/
def originRecord (lat lon alt : Word) (osdOn : BitVec 1) (fix : Byte) : FrameRecord :=
  .origin { pos := ⟨lat, lon, alt⟩, osdOn := osdOn, fix := fix }

/-- Navigation record under given maxima (R137, R141). -/
def navigationRecordIn (gpsMax navMax actionMax errorMax : Byte)
    (gpsMode navMode navAction waypoint navError flags : Byte) : NavigationRecord where
  gpsMode := gpsMode
  navMode := navMode
  navAction := navAction
  waypoint := waypoint
  navError := navError
  flags := flags
  gpsModeKnown := enumKnown gpsMode.toNat gpsMax.toNat
  navModeKnown := enumKnown navMode.toNat navMax.toNat
  navActionKnown := enumKnown navAction.toNat actionMax.toNat
  navErrorKnown := enumKnown navError.toNat errorMax.toNat

/-- Navigation record of the block, under its OPEN maxima (R137). -/
def navigationRecord (gpsMode navMode navAction waypoint navError flags : Byte) : FrameRecord :=
  .navigation (navigationRecordIn Config.gpsModeMax Config.navModeMax Config.navActionMax Config.navErrorMax
    gpsMode navMode navAction waypoint navError flags)

/-- GPS-Extended record (R138); payload byte 5 is not decoded (30_encoding.md R81). -/
def gpsExtendedRecord (hdop : Half) (hwStatus ltmxCounter disarmReason : Byte) : FrameRecord :=
  .gpsExtended { hdop := hdop, hwStatus := hwStatus, ltmxCounter := ltmxCounter, disarmReason := disarmReason }

/-- The record of a frame. -/
def recordOf : Instr → FrameRecord
  | .gps lat lon gs alt fix sats _ => gpsRecord lat lon gs alt fix sats
  | .altitude pitch roll heading _ => altitudeRecord pitch roll heading
  | .status vbat consumed rssi airspeed statusRaw _ => statusRecord vbat consumed rssi airspeed statusRaw
  | .origin lat lon alt osdOn _ fix _ => originRecord lat lon alt osdOn fix
  | .navigation gm nm na wp ne flags _ => navigationRecord gm nm na wp ne flags
  | .gpsExtended hdop hw ctr dr _ _ => gpsExtendedRecord hdop hw ctr dr
  | .tuning _ => .tuning

/-- `Decode(tag, payload)` (R130): a record for every known tag and every payload of exactly `LEN(tag)`
bytes, and nothing else. The checksum byte plays no part in it. -/
def decodeRecord (tag : Byte) (p : List Byte) : Option FrameRecord := (frameOf tag p 0x00#8).map recordOf

end Sys2Proof.Machine
end

