-- ==== Sys2Proof/Machine/PositionFrames.lean ====
section
/-! DEFINITION. The meanings of the position frames: GPS, Origin, GPS-Extended. A frame's meaning is what
happens when its checksum byte is read: it is emitted with its record, or counted (40_sync_fsm.md R106, R107;
log entry 4). -/

namespace Sys2Proof.Machine

open Host (Outcome)

/-- GPS frame (41_frame_decoders.md R132). -/
def execGps (lat lon : Word) (groundSpeed : Byte) (alt : Word) (fix : BitVec 2) (sats : BitVec 6) (ck : Byte)
    (s : State) : Outcome State Fault Refusal :=
  closeFrame ⟨FrameKind.tag .gps, gpsPayload lat lon groundSpeed alt fix sats⟩
    (gpsRecord lat lon groundSpeed alt fix sats) ck s

/-- Origin frame (41_frame_decoders.md R136). -/
def execOrigin (lat lon alt : Word) (osdOn : BitVec 1) (unused : BitVec 7) (fix : Byte) (ck : Byte)
    (s : State) : Outcome State Fault Refusal :=
  closeFrame ⟨FrameKind.tag .origin, originPayload lat lon alt osdOn unused fix⟩
    (originRecord lat lon alt osdOn fix) ck s

/-- GPS-Extended frame (41_frame_decoders.md R138). -/
def execGpsExtended (hdop : Half) (hwStatus ltmxCounter disarmReason unused : Byte) (ck : Byte)
    (s : State) : Outcome State Fault Refusal :=
  closeFrame ⟨FrameKind.tag .gpsExtended, gpsExtendedPayload hdop hwStatus ltmxCounter disarmReason unused⟩
    (gpsExtendedRecord hdop hwStatus ltmxCounter disarmReason) ck s

end Sys2Proof.Machine
end

