-- ==== Sys2Proof/Machine/VehicleFrames.lean ====
section
/-! DEFINITION. The meanings of the vehicle frames: Altitude, Status, Navigation, Tuning. A frame's meaning
is what happens when its checksum byte is read: it is emitted with its record, or counted (40_sync_fsm.md
R106, R107; log entry 4). -/

namespace Sys2Proof.Machine

open Host (Outcome)

/-- Altitude frame (41_frame_decoders.md R133). -/
def execAltitude (pitch roll heading : Half) (ck : Byte) (s : State) : Outcome State Fault Refusal :=
  closeFrame ⟨FrameKind.tag .altitude, altitudePayload pitch roll heading⟩ (altitudeRecord pitch roll heading) ck s

/-- Status frame (41_frame_decoders.md R134). -/
def execStatus (vbat consumed : Half) (rssi airspeed statusRaw : Byte) (ck : Byte)
    (s : State) : Outcome State Fault Refusal :=
  closeFrame ⟨FrameKind.tag .status, statusPayload vbat consumed rssi airspeed statusRaw⟩
    (statusRecord vbat consumed rssi airspeed statusRaw) ck s

/-- Navigation frame (41_frame_decoders.md R137). -/
def execNavigation (gpsMode navMode navAction waypoint navError flags : Byte) (ck : Byte)
    (s : State) : Outcome State Fault Refusal :=
  closeFrame ⟨FrameKind.tag .navigation, navigationPayload gpsMode navMode navAction waypoint navError flags⟩
    (navigationRecord gpsMode navMode navAction waypoint navError flags) ck s

/-- Tuning frame (41_frame_decoders.md R139): no payload, an empty record. -/
def execTuning (ck : Byte) (s : State) : Outcome State Fault Refusal :=
  closeFrame ⟨FrameKind.tag .tuning, []⟩ .tuning ck s

end Sys2Proof.Machine
end

