-- ==== Sys2Proof/Machine/Dispatch.lean ====
section
/-! DEFINITION. One arm per frame kind, each a call of its meaning. -/

namespace Sys2Proof.Machine

open Host (Outcome)

-- The meaning of each row of the opcode table.
def exec (i : Instr) (s : State) : Host.Outcome State Fault Refusal :=
  match i with
  | .gps lat lon groundSpeed alt fix sats ck => Sys2Proof.Machine.execGps lat lon groundSpeed alt fix sats ck s
  | .altitude pitch roll heading ck => Sys2Proof.Machine.execAltitude pitch roll heading ck s
  | .status vbat consumed rssi airspeed statusRaw ck => Sys2Proof.Machine.execStatus vbat consumed rssi airspeed statusRaw ck s
  | .origin lat lon alt osdOn unused fix ck => Sys2Proof.Machine.execOrigin lat lon alt osdOn unused fix ck s
  | .navigation gpsMode navMode navAction waypoint navError flags ck => Sys2Proof.Machine.execNavigation gpsMode navMode navAction waypoint navError flags ck s
  | .gpsExtended hdop hwStatus ltmxCounter disarmReason unused ck => Sys2Proof.Machine.execGpsExtended hdop hwStatus ltmxCounter disarmReason unused ck s
  | .tuning ck => Sys2Proof.Machine.execTuning ck s

end Sys2Proof.Machine
end

