-- ==== Sys2Proof/Machine/Framing.lean ====
section
/-! DEFINITION. The transitions of the framing state machine that are not the close of a frame, one
definition per rule of 40_sync_fsm.md. They fetch a frame byte by byte. -/

namespace Sys2Proof.Machine

open Host (Outcome)

/-- R101: `S_SENT` on a byte. -/
def findSentinel (b : Byte) (s : State) : State :=
  if b = sentinel then goTo .hdr s else goTo .sent s

/-- R102: `S_HDR` on a byte; the byte rejected is not tested as a sentinel. -/
def checkHeader (b : Byte) (s : State) : State :=
  if b = header then goTo .type s else goTo .sent s

/-- R103 and R105: a known tag is accepted; a kind without payload goes straight to its checksum. -/
def acceptTag (b : Byte) (k : FrameKind) (s : State) : State :=
  goTo (if k.len = 0 then .cks else .pay)
    { s with
      tag := b
      len := BitVec.ofNat 4 k.len
      idx := 0#4
      acc := checksumClear }

/-- `S_TYPE` on a byte: R103, R105 or R104. -/
def readTag (b : Byte) (s : State) : State :=
  match kindOf b with
  | some k => acceptTag b k s
  | none => raiseUnknownTag s

/-- R110 and R111: `S_PAY` on a byte; the last byte moves on to the checksum. -/
def readPayload (b : Byte) (s : State) : Outcome State Fault Refusal :=
  if s.idx.toNat < s.len.toNat ∧ s.idx.toNat < Config.maxLen then
    .next (goTo (if s.idx.toNat + 1 = s.len.toNat then .cks else .pay) (storePayloadByte b s))
  else .fault .payloadIndex

/-- R112: `S_PAY` on `End` or `Error`, for either value of `MALFORMED_ON_EMPTY_EOS`. -/
def shortPayload (countEmpty : Bool) (cause : TermCause) (s : State) : State :=
  if 0 < s.idx.toNat ∨ countEmpty = true then raiseMalformedEnd cause s else raiseTerminated cause s

end Sys2Proof.Machine
end

