-- ==== Sys2Proof/Machine/Transaction.lean ====
section
/-! DEFINITION. The transaction-level step: the table of 40_sync_fsm.md R100, one symbol at a time. -/

namespace Sys2Proof.Machine

open Host (Outcome)

/-- The frame whose checksum byte `ck` is being read: tag, collected payload, checksum byte. None where the
registers spell no frame: `tag` is unknown, or `len` is not `LEN(tag)`. `len` = 15 is outside the range of
10_state.md R23 and `buf` has no byte 14, so it spells no frame either (DESIGN CHOICE, log entry 8). -/
def fetchedFrame (ck : Byte) (s : State) : Option Instr :=
  if s.len.toNat ≤ Config.maxLen then frameOf s.tag s.payload ck else none

/-- `S_CKS` on a byte: the frame is complete and runs (R106, R107). Where the registers spell no frame
(no run from reset gets there) a wrong checksum byte is still counted, which reads neither tag nor payload,
and a right one has no record to emit and is refused (DESIGN CHOICE, log entry 8). -/
def readChecksum (b : Byte) (s : State) : Outcome State Fault Refusal :=
  match fetchedFrame b s with
  | some i => exec i s
  | none => if checksumMatch b s.acc then .refused .noRecord else .next (raiseCksumFail s)

/-- What a byte does in each state (R100). -/
def onByte (b : Byte) (s : State) : Outcome State Fault Refusal :=
  match Phase.ofCode s.state with
  | none => .refused .illegalState
  | some .sent => .next (findSentinel b s)
  | some .hdr => .next (checkHeader b s)
  | some .type => .next (readTag b s)
  | some .pay => readPayload b s
  | some .cks => readChecksum b s
  | some .done => .refused .parseEnded

/-- What `End` and `Error` do in each state (R100, R108, R112). -/
def onEnd (cause : TermCause) (s : State) : Outcome State Fault Refusal :=
  match Phase.ofCode s.state with
  | none => .refused .illegalState
  | some .pay => .next (shortPayload Config.malformedOnEmptyEos cause s)
  | some .done => .refused .parseEnded
  | some .sent => .next (raiseTerminated cause s)
  | some .hdr => .next (raiseTerminated cause s)
  | some .type => .next (raiseTerminated cause s)
  | some .cks => .next (raiseTerminated cause s)

/-- One transaction: one symbol read (R100, 00_scope.md R7). -/
def transact (sym : Symbol) (s : State) : Outcome State Fault Refusal :=
  match s.illegal with
  | some r => .refused r
  | none =>
    match sym with
    | .byte b => onByte b s
    | .endOfStream => onEnd .streamEnd s
    | .readError => onEnd .streamError s

end Sys2Proof.Machine
end

