-- ==== Sys2Proof/Machine/Ports.lean ====
section
/-! DEFINITION. The ports (10_state.md section 6): what the outside drives, what the block drives, and one
clock cycle. -/

namespace Sys2Proof.Machine

open Host (Outcome)

/-- The input signals of one cycle (R41, R43, R46). -/
structure PortIn where
  rst : Bool
  inValid : Bool
  inData : Byte
  inEos : Bool
  inErr : Bool
  foReady : Bool
deriving DecidableEq, Repr

/-- The symbol on the input port: `Error` over `End` over the byte (R41). -/
def PortIn.symbol (p : PortIn) : Symbol :=
  if p.inErr then .readError else if p.inEos then .endOfStream else .byte p.inData

/-- A cycle in which a symbol is offered and the consumer is ready. -/
def PortIn.offer (sym : Symbol) : PortIn where
  rst := false
  inValid := true
  inData :=
    match sym with
    | .byte b => b
    | .endOfStream => 0x00#8
    | .readError => 0x00#8
  inEos := sym == .endOfStream
  inErr := sym == .readError
  foReady := true

/-- A cycle in which nothing is offered and the consumer is ready. -/
def PortIn.idle : PortIn where
  rst := false
  inValid := false
  inData := 0x00#8
  inEos := false
  inErr := false
  foReady := true

/-- `in_ready` (R42). -/
def inReady (p : PortIn) (s : State) : Bool :=
  !p.rst && !s.done && (s.fo.isNone || p.foReady)

/-- A symbol is transferred this cycle (R41). -/
def inTransfer (p : PortIn) (s : State) : Bool := p.inValid && inReady p s

/-- A frame is transferred this cycle (R43; log entry 11 for a cycle with `rst`). -/
def foTransfer (p : PortIn) (s : State) : Bool := s.fo.isSome && p.foReady

/-- The port registers' own part of a cycle: a frame taken leaves the output register, and the event strobe
of the step before ends (R43, R45). -/
def handOver (p : PortIn) (s : State) : State :=
  { s with
    fo := if foTransfer p s then none else s.fo
    evValid := false }

/-- One clock cycle, in which the symbol taken is `taken` if one is: reset first (70_reset_and_hazards.md R231);
else a transfer is one transaction (R41), and without one the block waits. Which symbol may be taken is
`admitted`'s to say. -/
def cycleTaking (taken : Symbol) (p : PortIn) (s : State) : Outcome State Fault Refusal :=
  if p.rst then .next (resetBlock s)
  else if inTransfer p s then transact taken (handOver p s)
  else
    match s.illegal with
    | some r => .refused r
    | none => .next (handOver p s)

/-- One clock cycle in which the symbol taken is the one offered (R41). -/
def cycle (p : PortIn) (s : State) : Outcome State Fault Refusal := cycleTaking p.symbol p s

/-! ### Offers that are not taken at once -/

/-- The symbols the block may take in a cycle, `offered` being those offered in the cycles of the same wait: every
one of them, and the one offered now (93_implementation_defined.md I16; log entry 16). -/
def admitted (offered : List Symbol) (p : PortIn) : List Symbol := p.symbol :: offered

/-- The symbols offered in the wait so far, after a cycle: a wait goes on exactly while `in_valid = 1` and
`in_ready = 0` (70_reset_and_hazards.md R244). -/
def stillOffered (offered : List Symbol) (p : PortIn) (s : State) : List Symbol :=
  if p.inValid && !inReady p s then admitted offered p else []

/-! ### Outputs -/

/-- `fo_payload`: payload byte `i` on bits `8i+7 : 8i`, bytes at `fo_len` and above 0 (R43). -/
def payloadBus (p : List Byte) : BitVec (8 * Config.maxLen) :=
  p.foldr (fun b acc => (acc <<< 8) ||| b.setWidth (8 * Config.maxLen)) 0

/-- `fo_rec` as a bundle of field signals, those of other kinds than the frame's 0 (41_frame_decoders.md R130;
log entry 13). -/
structure RecordSignals where
  gps : GpsRecord
  altitude : AltitudeRecord
  status : StatusRecord
  origin : OriginRecord
  navigation : NavigationRecord
  gpsExtended : GpsExtendedRecord
deriving DecidableEq, Repr

/-- Every field signal at 0. -/
def RecordSignals.zero : RecordSignals where
  gps := ⟨⟨0, 0, 0⟩, 0, 0, 0⟩
  altitude := ⟨0, 0, 0⟩
  status := ⟨0, 0, 0, 0, 0, 0, false, false, false⟩
  origin := ⟨⟨0, 0, 0⟩, 0, 0⟩
  navigation := ⟨0, 0, 0, 0, 0, 0, false, false, false, false⟩
  gpsExtended := ⟨0, 0, 0, 0⟩

/-- The bundle of a record. -/
def FrameRecord.signals : FrameRecord → RecordSignals
  | .gps r => { RecordSignals.zero with gps := r }
  | .altitude r => { RecordSignals.zero with altitude := r }
  | .status r => { RecordSignals.zero with status := r }
  | .origin r => { RecordSignals.zero with origin := r }
  | .navigation r => { RecordSignals.zero with navigation := r }
  | .gpsExtended r => { RecordSignals.zero with gpsExtended := r }
  | .tuning => RecordSignals.zero

/-- The data signals of the frame output port while a frame is offered (R43). -/
structure FrameSignals where
  foTag : Byte
  foLen : BitVec 4
  foPayload : BitVec (8 * Config.maxLen)
  foRec : RecordSignals
deriving DecidableEq, Repr

/-- The signals of a held frame. -/
def HeldFrame.signals (h : HeldFrame) : FrameSignals where
  foTag := h.frame.tag
  foLen := BitVec.ofNat 4 h.frame.payload.length
  foPayload := payloadBus h.frame.payload
  foRec := h.record.signals

/-- The output signals of a cycle (R41, R43, R44, R45). The frame signals are given only while
`fo_valid = 1` (log entry 10). -/
structure PortOut where
  inReady : Bool
  foValid : Bool
  fo : Option FrameSignals
  stState : BitVec 3
  stDone : Bool
  stTerm : BitVec 2
  cntUnknown : BitVec Config.cntW
  cntMalformed : BitVec Config.cntW
  cntCksum : BitVec Config.cntW
  evValid : Bool
  evCode : BitVec 3
deriving DecidableEq, Repr

/-- The outputs in state `s` under the inputs `p`. -/
def outputs (p : PortIn) (s : State) : PortOut where
  inReady := inReady p s
  foValid := s.fo.isSome
  fo := s.fo.map HeldFrame.signals
  stState := s.state
  stDone := s.done
  stTerm := s.termCause
  cntUnknown := s.cntUnknown
  cntMalformed := s.cntMalformed
  cntCksum := s.cntCksum
  evValid := s.evValid
  evCode := s.evCode

/-! ### The step over the input stream -/

/-- One step over the stream: the next symbol is offered to a block whose consumer is ready. It leaves the
stream when the block takes it (20_memory.md R55), and stays where the block reads nothing (40_sync_fsm.md
R109). Without a symbol the block waits (R41). Log entries 1 to 3. -/
def readStream (s : State) : Outcome State Fault Refusal :=
  match s.input with
  | [] => cycle PortIn.idle s
  | sym :: rest =>
    if inReady (PortIn.offer sym) s then cycle (PortIn.offer sym) { s with input := rest }
    else cycle (PortIn.offer sym) s

end Sys2Proof.Machine
end

