-- ==== Sys2Proof/Machine/Fetch.lean ====
section
/-! DEFINITION. Placing one frame so that the next step runs it (log entry 5). -/

namespace Sys2Proof.Machine

/-- Payload bytes written into `buf` from index `i` on. -/
def fillBuf (i : Nat) : List Byte → Vector Byte Config.maxLen → Vector Byte Config.maxLen
  | [], v => v
  | b :: rest, v => fillBuf (i + 1) rest (v.setIfInBounds i b)

/-- The registers as they are when a frame of kind `k` with payload `p` has been read up to its checksum
byte (40_sync_fsm.md R103, R105, R110, R111). -/
def stageFrame (k : FrameKind) (p : List Byte) (s : State) : State :=
  { s with
    state := Phase.code .cks
    tag := k.tag
    len := BitVec.ofNat 4 k.len
    idx := BitVec.ofNat 4 k.len
    buf := fillBuf 0 p s.buf
    acc := checksum p }

/-- The bytes of an opcode-table word (tag, payload, checksum byte) placed where the next step reads them:
all but the checksum byte already collected, the checksum byte next on the stream. A word whose tag is
unknown is placed where the block meets it: in `S_TYPE`, the tag next on the stream. -/
def placeTableBytes (bs : List Byte) (s : State) : State :=
  match bs with
  | [] => s
  | tag :: body =>
    match kindOf tag with
    | none => { s with state := Phase.code .type, input := .byte tag :: s.input }
    | some k =>
      { stageFrame k (body.take k.len) s with input := .byte (byteAt body k.len) :: s.input }

end Sys2Proof.Machine
end

