-- ==== Sys2Proof/Machine/Step.lean ====
section
/-! DEFINITION. The step of the machine. -/

namespace Sys2Proof.Machine

/-- One step: one symbol of the input stream (00_scope.md R7). -/
def step (s : State) : Host.Outcome State Fault Refusal := readStream s

/-- `s` with the frame of an opcode-table word placed so that the next step runs it (log entry 5). -/
def State.withFetchWord (s : State) (nbits w : Nat) : State := placeTableBytes (tableBytes nbits w) s

end Sys2Proof.Machine
end

