-- ==== Sys2Proof/Machine/Layout.lean ====
section
/-! DEFINITION. The payload layouts as tables (30_encoding.md R72 to R77), the integer each record field
reads as (R83), and the fixed-point scales (41_frame_decoders.md R140). -/

namespace Sys2Proof.Machine

/-- The record fields that hold payload bits, by the names of 41_frame_decoders.md. -/
inductive FieldName where
  | lat | lon | alt | groundSpeed | gpsFix | sats
  | pitch | roll | heading
  | vbat | consumed | rssi | airspeed | statusRaw | flightStatus
  | osdOn | originFix
  | gpsMode | navMode | navAction | waypoint | navError | flags
  | hdop | hwStatus | ltmxCounter | disarmReason
deriving DecidableEq, Repr

/-- A row of a layout: field, form, payload offset. -/
structure FieldRow where
  name : FieldName
  form : Form
  offset : Nat
deriving DecidableEq, Repr

/-- The layout of each kind, in the order of its decoder rule (41_frame_decoders.md R132 to R139). -/
def layoutOf : FrameKind → List FieldRow
  | .gps =>
    [⟨.lat, .i32, 0⟩, ⟨.lon, .i32, 4⟩, ⟨.groundSpeed, .i8, 8⟩, ⟨.alt, .i32, 9⟩, ⟨.gpsFix, .bits 1 0, 13⟩,
      ⟨.sats, .bits 7 2, 13⟩]
  | .altitude => [⟨.pitch, .i16, 0⟩, ⟨.roll, .i16, 2⟩, ⟨.heading, .i16, 4⟩]
  | .status =>
    [⟨.vbat, .u16, 0⟩, ⟨.consumed, .u16, 2⟩, ⟨.rssi, .u8, 4⟩, ⟨.airspeed, .u8, 5⟩, ⟨.statusRaw, .u8, 6⟩,
      ⟨.flightStatus, .bits 7 2, 6⟩]
  | .origin =>
    [⟨.lat, .i32, 0⟩, ⟨.lon, .i32, 4⟩, ⟨.alt, .i32, 8⟩, ⟨.osdOn, .bits 0 0, 12⟩, ⟨.originFix, .u8, 13⟩]
  | .navigation =>
    [⟨.gpsMode, .u8, 0⟩, ⟨.navMode, .u8, 1⟩, ⟨.navAction, .u8, 2⟩, ⟨.waypoint, .i8, 3⟩, ⟨.navError, .u8, 4⟩,
      ⟨.flags, .u8, 5⟩]
  | .gpsExtended => [⟨.hdop, .u16, 0⟩, ⟨.hwStatus, .u8, 2⟩, ⟨.ltmxCounter, .u8, 3⟩, ⟨.disarmReason, .u8, 4⟩]
  | .tuning => []

/-- The integers a payload spells, field by field, read straight from the layout table. -/
def integersOf (k : FrameKind) (p : List Byte) : List (FieldName × Int) :=
  (layoutOf k).map fun row => (row.name, row.form.read p row.offset)

/-- The integer each field of a record reads as: signed fields in two's complement, the others unsigned
(30_encoding.md R83, 41_frame_decoders.md R142). -/
def FrameRecord.integers : FrameRecord → List (FieldName × Int)
  | .gps r =>
    [(.lat, r.pos.lat.toInt), (.lon, r.pos.lon.toInt), (.groundSpeed, r.groundSpeed.toInt),
      (.alt, r.pos.alt.toInt), (.gpsFix, r.fix.toNat), (.sats, r.sats.toNat)]
  | .altitude r => [(.pitch, r.pitch.toInt), (.roll, r.roll.toInt), (.heading, r.heading.toInt)]
  | .status r =>
    [(.vbat, r.vbat.toNat), (.consumed, r.consumed.toNat), (.rssi, r.rssi.toNat), (.airspeed, r.airspeed.toNat),
      (.statusRaw, r.statusRaw.toNat), (.flightStatus, r.flightStatus.toNat)]
  | .origin r =>
    [(.lat, r.pos.lat.toInt), (.lon, r.pos.lon.toInt), (.alt, r.pos.alt.toInt), (.osdOn, r.osdOn.toNat),
      (.originFix, r.fix.toNat)]
  | .navigation r =>
    [(.gpsMode, r.gpsMode.toNat), (.navMode, r.navMode.toNat), (.navAction, r.navAction.toNat),
      (.waypoint, r.waypoint.toInt), (.navError, r.navError.toNat), (.flags, r.flags.toNat)]
  | .gpsExtended r =>
    [(.hdop, r.hdop.toNat), (.hwStatus, r.hwStatus.toNat), (.ltmxCounter, r.ltmxCounter.toNat),
      (.disarmReason, r.disarmReason.toNat)]
  | .tuning => []

/-- The divisor of a scaled field; 1 for a field delivered unscaled (41_frame_decoders.md R140). -/
def FieldName.divisor : FieldName → Nat
  | .lat | .lon => 10000000
  | .alt => 100
  | .vbat | .consumed => 1000
  | .hdop => 100
  | _ => 1

/-- The value a field stands for: exactly `raw / d` (41_frame_decoders.md R140). -/
def FieldName.value (n : FieldName) (raw : Int) : Rat := (raw : Rat) / (n.divisor : Rat)

end Sys2Proof.Machine
end

