-- ==== Sys2Proof/WellFormed.lean ====
section
/-! DEFINITION. Which frames are well formed. The field widths are in the types of `Instr`; the one check
left is the checksum byte, which must be the XOR of the payload (30_encoding.md R71, 42_checksum.md R182).
A frame that fails it is `BADFRAME` of 30_encoding.md R87: the block reads it and counts it
(40_sync_fsm.md R107). -/

namespace Sys2Proof

/-- The checksum byte is the XOR of the payload bytes: the frame is `FRAME(tag, payload)`. -/
def Instr.wellFormed (i : Instr) : Bool := i.ck == Machine.checksum i.payload

end Sys2Proof
end

