-- ==== Sys2Proof/Safety.lean ====
section
/-! DEFINITION. The terms claims are stated in: legal codes, the invariant of every reachable state, runs of
steps, transactions and cycles, what an observer sees, and the host duties of 70_reset_and_hazards.md R244. -/

namespace Sys2Proof.Machine

open Host (Outcome)

/-- The status registers hold codes the spec uses (10_state.md R20, R27, 60_exceptions.md R201). -/
abbrev State.Legal (s : State) : Prop :=
  s.state.toNat ≤ 5 ∧ s.termCause ≠ 3#2 ∧ s.evCode.toNat ≤ 5

/-- The payload bytes collected so far, `buf[0..idx-1]` (10_state.md R24). -/
def State.collected (s : State) : List Byte := s.buf.toList.take s.idx.toNat

/-- A frame in progress: a known tag, its length, and `acc` the XOR of the bytes collected
(10_state.md R23, 42_checksum.md R182). -/
def State.InFrame (s : State) : Prop :=
  ∃ k, kindOf s.tag = some k ∧ s.len.toNat = k.len ∧ s.acc = checksum s.collected

/-- The invariant every step keeps. -/
structure State.Inv (s : State) : Prop where
  /-- No unused code (40_sync_fsm.md R113, I2). -/
  legal : s.Legal
  /-- `term_cause` is `NONE` exactly while the parse runs (10_state.md R27, R28). -/
  cause : s.done = true ↔ s.termCause ≠ TermCause.code .running
  /-- In `S_PAY`, `idx < len` (10_state.md R24). -/
  collecting : s.state = Phase.code .pay → s.InFrame ∧ s.idx.toNat < s.len.toNat
  /-- In `S_CKS`, `idx = len` (10_state.md R24). -/
  complete : s.state = Phase.code .cks → s.InFrame ∧ s.idx = s.len
  /-- Every element of `frames` has a known tag and a payload of its length (10_state.md R33). -/
  validated : ∀ f ∈ s.frames, ∃ k, kindOf f.tag = some k ∧ f.payload.length = k.len
  /-- The output register holds the last frame emitted, with its record (10_state.md R43). -/
  held : ∀ h, s.fo = some h →
    s.frames.getLast? = some h.frame ∧ decodeRecord h.frame.tag h.frame.payload = some h.record
  /-- `ev_valid` strobes real events only (10_state.md R45). -/
  strobe : s.evValid = true → s.evCode ≠ Event.code .noEvent

/-- `n` steps, stopping at the first fault or refusal. -/
def runSteps : Nat → State → Outcome State Fault Refusal
  | 0, s => .next s
  | n + 1, s =>
    match step s with
    | .next t => runSteps n t
    | .fault f => .fault f
    | .refused r => .refused r

/-- The transactions of a list of symbols, in order. -/
def transactAll : List Symbol → State → Outcome State Fault Refusal
  | [], s => .next s
  | sym :: rest, s =>
    match transact sym s with
    | .next t => transactAll rest t
    | .fault f => .fault f
    | .refused r => .refused r

/-- A block and what its producer has offered in the wait so far. -/
structure Link where
  block : State
  offered : List Symbol
deriving DecidableEq, Repr

/-- What the outside settles in a cycle: the input signals, and which symbol is taken where
93_implementation_defined.md I16 leaves it open. -/
structure PortCycle where
  signals : PortIn
  taken : Symbol
deriving DecidableEq, Repr

/-- A cycle with the symbol its signals offer. -/
def PortCycle.offered (p : PortIn) : PortCycle := ⟨p, p.symbol⟩

/-- The symbol named is one the block may take. -/
abbrev Link.Admits (l : Link) (c : PortCycle) : Prop := c.taken ∈ admitted l.offered c.signals

/-- One cycle of a block with its producer; none for a symbol that is not admitted, and where the cycle stops. -/
def Link.next (l : Link) (c : PortCycle) : Option Link :=
  if l.Admits c then
    match cycleTaking c.taken c.signals l.block with
    | .next t => some ⟨t, stillOffered l.offered c.signals l.block⟩
    | .fault _ => none
    | .refused _ => none
  else none

/-- What a run of cycles leaves: the state, the symbols taken, the frames transferred. -/
structure CycleTrace where
  final : State
  taken : List Symbol
  sent : List HeldFrame
deriving DecidableEq, Repr

/-- The cycles of a list, in order; none when one of them is not admitted or stops. -/
def runCycles : List PortCycle → Link → Option CycleTrace
  | [], l => some ⟨l.block, [], []⟩
  | c :: cs, l =>
    match l.next c with
    | none => none
    | some m =>
      (runCycles cs m).map fun tr =>
        { tr with
          taken := (if inTransfer c.signals l.block then [c.taken] else []) ++ tr.taken
          sent := (if foTransfer c.signals l.block then l.block.fo.toList else []) ++ tr.sent }

/-- The block and its producer before cycle `n` of an unending sequence, with no wait at first; none once a cycle
was not admitted or has stopped. -/
def portRun (env : Nat → PortCycle) (s : State) : Nat → Option Link
  | 0 => some ⟨s, []⟩
  | n + 1 =>
    match portRun env s n with
    | none => none
    | some l => l.next (env n)

/-- The symbol ends the stream. -/
def Symbol.ends : Symbol → Bool
  | .byte _ => false
  | .endOfStream => true
  | .readError => true

/-- The consumer accepts again and again (70_reset_and_hazards.md R244). -/
def FairConsumer (env : Nat → PortCycle) : Prop := ∀ n, ∃ m, n ≤ m ∧ (env m).signals.foReady = true

/-- The producer offers `End` or `Error` at some cycle (70_reset_and_hazards.md R244). -/
def EndOffered (env : Nat → PortCycle) : Prop :=
  ∃ n, (env n).signals.inValid = true ∧ Symbol.ends (env n).signals.symbol = true

/-- In cycle `n` a symbol is offered and not taken: `in_valid = 1` and `in_ready = 0`. -/
def Waiting (env : Nat → PortCycle) (s : State) (n : Nat) : Prop :=
  ∃ l, portRun env s n = some l ∧ (env n).signals.inValid = true ∧ inReady (env n).signals l.block = false

/-- The producer holds `in_data`, `in_eos` and `in_err` while it offers a symbol that is not taken
(70_reset_and_hazards.md R244). It may still withdraw the offer. -/
def StableProducer (env : Nat → PortCycle) (s : State) : Prop :=
  ∀ n, Waiting env s n → (env (n + 1)).signals.inValid = true →
    (env (n + 1)).signals.inData = (env n).signals.inData ∧
    (env (n + 1)).signals.inEos = (env n).signals.inEos ∧
    (env (n + 1)).signals.inErr = (env n).signals.inErr

/-- The producer does not withdraw an offer that is not taken. R244 does not ask it: the model's own reading of
'eventually offer `End` or `Error`' (log entry 16). -/
def OfferKept (env : Nat → PortCycle) (s : State) : Prop :=
  ∀ n, Waiting env s n → (env (n + 1)).signals.inValid = true

/-- Every symbol taken in the run is one the block may take (93_implementation_defined.md I16). -/
def AdmittedRun (env : Nat → PortCycle) (s : State) : Prop :=
  ∀ n l, portRun env s n = some l → l.Admits (env n)

/-- A state with the frame-in-progress registers blanked: what the ports, the counters and the emitted
frames can show (10_state.md R36). -/
def State.visible (s : State) : State :=
  { s with
    tag := 0x00#8
    len := 0#4
    idx := 0#4
    buf := Vector.replicate Config.maxLen 0x00#8
    acc := 0x00#8 }

/-- The visible part of an outcome. -/
def visibleOutcome : Outcome State Fault Refusal → Outcome State Fault Refusal
  | .next s => .next s.visible
  | .fault f => .fault f
  | .refused r => .refused r

/-- The result of a parse (40_sync_fsm.md R116, 00_scope.md R9). -/
structure ParseResult where
  frames : List Frame
  cntUnknown : BitVec Config.cntW
  cntMalformed : BitVec Config.cntW
  cntCksum : BitVec Config.cntW
  termCause : BitVec 2
deriving DecidableEq, Repr

/-- The result, once the parse has ended (40_sync_fsm.md R116). -/
def State.result (s : State) : Option ParseResult :=
  if s.done then some ⟨s.frames, s.cntUnknown, s.cntMalformed, s.cntCksum, s.termCause⟩ else none

/-- At the ports the run is over when the last frame has been transferred as well (40_sync_fsm.md R116). -/
def State.runOver (s : State) : Bool := s.done && s.fo.isNone

/-- The bytes of a list as symbols of a stream (30_encoding.md R86). -/
def byteSymbols (bs : List Byte) : List Symbol := bs.map .byte

end Sys2Proof.Machine
end

