-- ==== Sys2Proof/Certificates/Slice0/Obligations.lean ====
section
/-! DEFINITION. The statements for the provers. -/

open Sys2Proof
open Sys2Proof.Machine
open Host (Outcome)

/-! ### Encoding -/

/-- 30_encoding.md R79: the registry. -/
def Obligations.RegistryOfSevenTags : Prop :=
  (∀ b : Byte, known b = true ↔ b ∈ [0x47#8, 0x41#8, 0x53#8, 0x4F#8, 0x4E#8, 0x58#8, 0x54#8]) ∧
  (∀ b : Byte, known b = false → kindOf b = none) ∧
  (kindOf 0x47#8).map FrameKind.len = some 14 ∧ (kindOf 0x41#8).map FrameKind.len = some 6 ∧
  (kindOf 0x53#8).map FrameKind.len = some 7 ∧ (kindOf 0x4F#8).map FrameKind.len = some 14 ∧
  (kindOf 0x4E#8).map FrameKind.len = some 6 ∧ (kindOf 0x58#8).map FrameKind.len = some 6 ∧
  (kindOf 0x54#8).map FrameKind.len = some 0 ∧
  (∀ k : FrameKind, kindOf k.tag = some k) ∧ (∀ j k : FrameKind, j.tag = k.tag → j = k)

/-- Decoding an encoded frame gives it back, whatever follows it, with every operand and checksum byte. -/
def Obligations.DecodeOfEncode : Prop :=
  ∀ (i : Instr) (rest : List Byte), decode (encode i ++ rest) = .ok (i, rest)

/-- Bytes that decode are exactly the bytes of the frame they decode to, and what follows: no payload bit is
dropped, the undecoded ones of 30_encoding.md R81 among them. -/
def Obligations.EncodeOfDecode : Prop :=
  ∀ (bs rest : List Byte) (i : Instr), decode bs = .ok (i, rest) → bs = encode i ++ rest

/-- Words written out from 30_encoding.md R71 to R78 decode to the frames they stand for. -/
def Obligations.SampleFramesDecode : Prop :=
  decode [0x24, 0x54, 0x41, 0x3E, 0xFE, 0xB0, 0x04, 0x67, 0x01, 0x12] =
    .ok (.altitude 0xFE3E#16 0x04B0#16 0x0167#16 0x12#8, []) ∧
  decode [0x24, 0x54, 0x53, 0xD8, 0x2E, 0x58, 0x02, 0x5A, 0x14, 0x05, 0xE7] =
    .ok (.status 0x2ED8#16 0x0258#16 0x5A#8 0x14#8 0x05#8 0xE7#8, []) ∧
  decode [0x24, 0x54, 0x54, 0x00] = .ok (.tuning 0x00#8, [])

/-- 30_encoding.md R71: a well-formed frame on the wire. -/
def Obligations.WireLayout : Prop :=
  ∀ i : Instr, i.wellFormed = true →
    encode i = [0x24#8, 0x54#8, i.kind.tag] ++ i.payload ++ [checksum i.payload] ∧
    i.payload.length = i.kind.len ∧ (encode i).length = i.kind.len + 4 ∧
    i.kind.tag ∈ [0x47#8, 0x41#8, 0x53#8, 0x4F#8, 0x4E#8, 0x58#8, 0x54#8]

/-! ### Fields and records -/

/-- 20_memory.md R52: multi-byte fields are little-endian, and 30_encoding.md R83: which integer they read
as; that a signed field is in two's complement is the spec's own addition (G2), log entry 18. -/
def Obligations.LittleEndianFields : Prop :=
  ∀ (p : List Byte) (i : Nat),
    le16 p i = byteAt p (i + 1) ++ byteAt p i ∧
    le32 p i = byteAt p (i + 3) ++ byteAt p (i + 2) ++ byteAt p (i + 1) ++ byteAt p i ∧
    (le16 p i).toNat = (byteAt p i).toNat + 256 * (byteAt p (i + 1)).toNat ∧
    (le32 p i).toNat = (byteAt p i).toNat + 256 * (byteAt p (i + 1)).toNat +
      65536 * (byteAt p (i + 2)).toNat + 16777216 * (byteAt p (i + 3)).toNat ∧
    (le16 p i).toInt = (le16 p i).toNat - (if 128 ≤ (byteAt p (i + 1)).toNat then 65536 else 0) ∧
    (le32 p i).toInt = (le32 p i).toNat - (if 128 ≤ (byteAt p (i + 3)).toNat then 4294967296 else 0)

/-- 41_frame_decoders.md R132. -/
def Obligations.GpsDecoder : Prop :=
  ∀ b0 b1 b2 b3 b4 b5 b6 b7 b8 b9 b10 b11 b12 b13 : Byte,
    decodeRecord 0x47#8 [b0, b1, b2, b3, b4, b5, b6, b7, b8, b9, b10, b11, b12, b13] =
      some (.gps {
        pos := ⟨b3 ++ b2 ++ b1 ++ b0, b7 ++ b6 ++ b5 ++ b4, b12 ++ b11 ++ b10 ++ b9⟩
        groundSpeed := b8
        fix := b13.extractLsb 1 0
        sats := b13.extractLsb 7 2 }) ∧
    ∀ r, decodeRecord 0x47#8 [b0, b1, b2, b3, b4, b5, b6, b7, b8, b9, b10, b11, b12, b13] = some r →
      r.integers =
        ([(.lat, (b3 ++ b2 ++ b1 ++ b0).toInt), (.lon, (b7 ++ b6 ++ b5 ++ b4).toInt), (.groundSpeed, b8.toInt),
          (.alt, (b12 ++ b11 ++ b10 ++ b9).toInt), (.gpsFix, (b13.extractLsb 1 0).toNat),
          (.sats, (b13.extractLsb 7 2).toNat)] : List (FieldName × Int))

/-- 41_frame_decoders.md R133. -/
def Obligations.AltitudeDecoder : Prop :=
  ∀ b0 b1 b2 b3 b4 b5 : Byte,
    decodeRecord 0x41#8 [b0, b1, b2, b3, b4, b5] =
      some (.altitude { pitch := b1 ++ b0, roll := b3 ++ b2, heading := b5 ++ b4 }) ∧
    ∀ r, decodeRecord 0x41#8 [b0, b1, b2, b3, b4, b5] = some r →
      r.integers = ([(.pitch, (b1 ++ b0).toInt), (.roll, (b3 ++ b2).toInt), (.heading, (b5 ++ b4).toInt)] : List (FieldName × Int))

/-- 41_frame_decoders.md R134, with the flags of R135 in the block's OPEN mode. -/
def Obligations.StatusDecoder : Prop :=
  ∀ b0 b1 b2 b3 b4 b5 b6 : Byte,
    decodeRecord 0x53#8 [b0, b1, b2, b3, b4, b5, b6] =
      some (.status {
        vbat := b1 ++ b0
        consumed := b3 ++ b2
        rssi := b4
        airspeed := b5
        statusRaw := b6
        flightStatus := b6.extractLsb 7 2
        flightStatusKnown := decide ((b6.extractLsb 7 2).toNat ≤ 21)
        armed := armedFlag Config.statusFlagMode b6
        failsafe := failsafeFlag Config.statusFlagMode b6 }) ∧
    ∀ r, decodeRecord 0x53#8 [b0, b1, b2, b3, b4, b5, b6] = some r →
      r.integers =
        ([(.vbat, (b1 ++ b0).toNat), (.consumed, (b3 ++ b2).toNat), (.rssi, b4.toNat), (.airspeed, b5.toNat),
          (.statusRaw, b6.toNat), (.flightStatus, (b6.extractLsb 7 2).toNat)] : List (FieldName × Int))

/-- 41_frame_decoders.md R135: the flag bits in each of the three modes. -/
def Obligations.StatusFlagTable : Prop :=
  ∀ s : Byte,
    (armedFlag .preserveLast s = s.getLsbD 1 ∧ failsafeFlag .preserveLast s = false) ∧
    (armedFlag .preserveOr s = (s.getLsbD 0 || s.getLsbD 1) ∧ failsafeFlag .preserveOr s = false) ∧
    (armedFlag .corrected s = s.getLsbD 0 ∧ failsafeFlag .corrected s = s.getLsbD 1) ∧
    ∀ (mode : Config.StatusFlagMode) (vbat consumed : Half) (rssi airspeed : Byte),
      (statusRecordIn mode vbat consumed rssi airspeed s).statusRaw = s ∧
      (statusRecordIn mode vbat consumed rssi airspeed s).armed = armedFlag mode s ∧
      (statusRecordIn mode vbat consumed rssi airspeed s).failsafe = failsafeFlag mode s

/-- 41_frame_decoders.md R136. -/
def Obligations.OriginDecoder : Prop :=
  ∀ b0 b1 b2 b3 b4 b5 b6 b7 b8 b9 b10 b11 b12 b13 : Byte,
    decodeRecord 0x4F#8 [b0, b1, b2, b3, b4, b5, b6, b7, b8, b9, b10, b11, b12, b13] =
      some (.origin {
        pos := ⟨b3 ++ b2 ++ b1 ++ b0, b7 ++ b6 ++ b5 ++ b4, b11 ++ b10 ++ b9 ++ b8⟩
        osdOn := b12.extractLsb 0 0
        fix := b13 }) ∧
    ∀ r, decodeRecord 0x4F#8 [b0, b1, b2, b3, b4, b5, b6, b7, b8, b9, b10, b11, b12, b13] = some r →
      r.integers =
        ([(.lat, (b3 ++ b2 ++ b1 ++ b0).toInt), (.lon, (b7 ++ b6 ++ b5 ++ b4).toInt),
          (.alt, (b11 ++ b10 ++ b9 ++ b8).toInt), (.osdOn, (b12.extractLsb 0 0).toNat), (.originFix, b13.toNat)] : List (FieldName × Int))

/-- 41_frame_decoders.md R137, with the `known` bits of R141 under the block's OPEN maxima. -/
def Obligations.NavigationDecoder : Prop :=
  ∀ b0 b1 b2 b3 b4 b5 : Byte,
    decodeRecord 0x4E#8 [b0, b1, b2, b3, b4, b5] =
      some (.navigation {
        gpsMode := b0
        navMode := b1
        navAction := b2
        waypoint := b3
        navError := b4
        flags := b5
        gpsModeKnown := decide (b0.toNat ≤ Config.gpsModeMax.toNat)
        navModeKnown := decide (b1.toNat ≤ Config.navModeMax.toNat)
        navActionKnown := decide (b2.toNat ≤ Config.navActionMax.toNat)
        navErrorKnown := decide (b4.toNat ≤ Config.navErrorMax.toNat) }) ∧
    ∀ r, decodeRecord 0x4E#8 [b0, b1, b2, b3, b4, b5] = some r →
      r.integers =
        ([(.gpsMode, b0.toNat), (.navMode, b1.toNat), (.navAction, b2.toNat), (.waypoint, b3.toInt),
          (.navError, b4.toNat), (.flags, b5.toNat)] : List (FieldName × Int))

/-- 41_frame_decoders.md R138. -/
def Obligations.GpsExtendedDecoder : Prop :=
  ∀ b0 b1 b2 b3 b4 b5 : Byte,
    decodeRecord 0x58#8 [b0, b1, b2, b3, b4, b5] =
      some (.gpsExtended { hdop := b1 ++ b0, hwStatus := b2, ltmxCounter := b3, disarmReason := b4 }) ∧
    ∀ r, decodeRecord 0x58#8 [b0, b1, b2, b3, b4, b5] = some r →
      r.integers =
        ([(.hdop, (b1 ++ b0).toNat), (.hwStatus, b2.toNat), (.ltmxCounter, b3.toNat), (.disarmReason, b4.toNat)] : List (FieldName × Int))

/-- 41_frame_decoders.md R139: the record is the empty Tuning variant, its checksum 0. -/
def Obligations.TuningDecoder : Prop :=
  decodeRecord 0x54#8 [] = some .tuning ∧ FrameRecord.integers .tuning = [] ∧ checksum [] = 0x00#8

/-- 41_frame_decoders.md R130: a record exactly for the known tags with payloads of their length. -/
def Obligations.DecodeIsTotalOnKnownFrames : Prop :=
  ∀ (tag : Byte) (p : List Byte),
    (∃ r, decodeRecord tag p = some r) ↔ ∃ k : FrameKind, kindOf tag = some k ∧ p.length = k.len

/-- The integers of a decoded record are those its kind's layout table (30_encoding.md R72 to R77) reads
from the payload by the operand forms of R83. -/
def Obligations.RecordFollowsLayout : Prop :=
  ∀ (k : FrameKind) (p : List Byte) (r : FrameRecord),
    decodeRecord k.tag p = some r → r.integers = integersOf k p

/-- 41_frame_decoders.md R140: a scaled field's value is exactly `raw / d`, every other field is unscaled. -/
def Obligations.FixedPointScales : Prop :=
  ∀ raw : Int,
    FieldName.value .lat raw = (raw : Rat) / 10000000 ∧ FieldName.value .lon raw = (raw : Rat) / 10000000 ∧
    FieldName.value .alt raw = (raw : Rat) / 100 ∧ FieldName.value .vbat raw = (raw : Rat) / 1000 ∧
    FieldName.value .consumed raw = (raw : Rat) / 1000 ∧ FieldName.value .hdop raw = (raw : Rat) / 100 ∧
    ∀ n : FieldName, n ∉ [FieldName.lat, .lon, .alt, .vbat, .consumed, .hdop] →
      FieldName.value n raw = (raw : Rat)

/-! ### Checksum -/

/-- 42_checksum.md R182: the checksum is the XOR of the payload bytes and does not depend on their order. -/
def Obligations.ChecksumIgnoresOrder : Prop :=
  checksum [] = 0x00#8 ∧ (∀ (b : Byte) (p : List Byte), checksum (b :: p) = b ^^^ checksum p) ∧
  ∀ p q : List Byte, p.Perm q → checksum p = checksum q

/-- 42_checksum.md R185, one bit: a frame sent with one payload bit flipped is dropped and counted, once, whatever
the position of the bit (steps as in log entry 1). -/
def Obligations.SingleBitFlipIsDropped : Prop :=
  ∀ (s : State) (k : FrameKind) (p : List Byte) (i j : Nat) (rest : List Symbol),
    s.Legal → s.state = Phase.code .sent → p.length = k.len → i < k.len → j < 8 →
    s.input = byteSymbols (badFrameBytes k.tag (p.modify i (fun b => b ^^^ BitVec.twoPow 8 j)) (checksum p)) ++ rest →
    ∃ t, runSteps (k.len + 4) s = .next t ∧ t.input = rest ∧ t.state = Phase.code .sent ∧
      t.frames = s.frames ∧ t.cntCksum = s.cntCksum + 1 ∧ t.cntUnknown = s.cntUnknown ∧
      t.cntMalformed = s.cntMalformed ∧ t.termCause = s.termCause ∧ t.evCode = 3#3

/-! ### What each frame does -/

/-- A GPS frame with a matching checksum byte completes: it is emitted with its record, and nothing else
but `state` and the event changes (41_frame_decoders.md R132 with 40_sync_fsm.md R106; that a frame is the
instruction is log entry 4). -/
def Obligations.GpsCompletes : Prop :=
  ∀ (lat lon : Word) (gs : Byte) (alt : Word) (fix : BitVec 2) (sats : BitVec 6) (s : State),
    exec (.gps lat lon gs alt fix sats s.acc) s = .next { s with
      frames := s.frames ++ [⟨0x47#8, gpsPayload lat lon gs alt fix sats⟩]
      fo := some ⟨⟨0x47#8, gpsPayload lat lon gs alt fix sats⟩,
        .gps { pos := ⟨lat, lon, alt⟩, groundSpeed := gs, fix := fix, sats := sats }⟩
      state := 0#3, evCode := 1#3, evValid := true }

/-- The same for an Altitude frame. -/
def Obligations.AltitudeCompletes : Prop :=
  ∀ (pitch roll heading : Half) (s : State),
    exec (.altitude pitch roll heading s.acc) s = .next { s with
      frames := s.frames ++ [⟨0x41#8, altitudePayload pitch roll heading⟩]
      fo := some ⟨⟨0x41#8, altitudePayload pitch roll heading⟩,
        .altitude { pitch := pitch, roll := roll, heading := heading }⟩
      state := 0#3, evCode := 1#3, evValid := true }

/-- The same for a Status frame; its record is that of the block's OPEN flag mode. -/
def Obligations.StatusCompletes : Prop :=
  ∀ (vbat consumed : Half) (rssi airspeed raw : Byte) (s : State),
    exec (.status vbat consumed rssi airspeed raw s.acc) s = .next { s with
      frames := s.frames ++ [⟨0x53#8, statusPayload vbat consumed rssi airspeed raw⟩]
      fo := some ⟨⟨0x53#8, statusPayload vbat consumed rssi airspeed raw⟩,
        .status (statusRecordIn Config.statusFlagMode vbat consumed rssi airspeed raw)⟩
      state := 0#3, evCode := 1#3, evValid := true }

/-- The same for an Origin frame; its undecoded bits stay in the payload. -/
def Obligations.OriginCompletes : Prop :=
  ∀ (lat lon alt : Word) (osdOn : BitVec 1) (unused : BitVec 7) (fix : Byte) (s : State),
    exec (.origin lat lon alt osdOn unused fix s.acc) s = .next { s with
      frames := s.frames ++ [⟨0x4F#8, originPayload lat lon alt osdOn unused fix⟩]
      fo := some ⟨⟨0x4F#8, originPayload lat lon alt osdOn unused fix⟩,
        .origin { pos := ⟨lat, lon, alt⟩, osdOn := osdOn, fix := fix }⟩
      state := 0#3, evCode := 1#3, evValid := true }

/-- The same for a Navigation frame; its record is that of the block's OPEN maxima. -/
def Obligations.NavigationCompletes : Prop :=
  ∀ (gm nm na wp ne flags : Byte) (s : State),
    exec (.navigation gm nm na wp ne flags s.acc) s = .next { s with
      frames := s.frames ++ [⟨0x4E#8, [gm, nm, na, wp, ne, flags]⟩]
      fo := some ⟨⟨0x4E#8, [gm, nm, na, wp, ne, flags]⟩,
        .navigation (navigationRecordIn Config.gpsModeMax Config.navModeMax Config.navActionMax
          Config.navErrorMax gm nm na wp ne flags)⟩
      state := 0#3, evCode := 1#3, evValid := true }

/-- The same for a GPS-Extended frame; its unused byte stays in the payload. -/
def Obligations.GpsExtendedCompletes : Prop :=
  ∀ (hdop : Half) (hw ctr dr unused : Byte) (s : State),
    exec (.gpsExtended hdop hw ctr dr unused s.acc) s = .next { s with
      frames := s.frames ++ [⟨0x58#8, gpsExtendedPayload hdop hw ctr dr unused⟩]
      fo := some ⟨⟨0x58#8, gpsExtendedPayload hdop hw ctr dr unused⟩,
        .gpsExtended { hdop := hdop, hwStatus := hw, ltmxCounter := ctr, disarmReason := dr }⟩
      state := 0#3, evCode := 1#3, evValid := true }

/-- The same for a Tuning frame: an empty payload and the empty record. -/
def Obligations.TuningCompletes : Prop :=
  ∀ s : State,
    exec (.tuning s.acc) s = .next { s with
      frames := s.frames ++ [⟨0x54#8, []⟩]
      fo := some ⟨⟨0x54#8, []⟩, .tuning⟩
      state := 0#3, evCode := 1#3, evValid := true }

/-- A frame of any kind with another checksum byte is dropped and counted, and nothing else changes but
`state` and the event (60_exceptions.md R204). -/
def Obligations.WrongChecksumByteIsCounted : Prop :=
  ∀ (i : Instr) (s : State), i.ck ≠ s.acc →
    exec i s = .next { s with cntCksum := s.cntCksum + 1, state := 0#3, evCode := 3#3, evValid := true }

/-! ### The framing state machine -/

/-- 40_sync_fsm.md R101. -/
def Obligations.SentinelSearch : Prop :=
  ∀ (s : State) (b : Byte), s.Legal → s.state = 0#3 →
    transact (.byte b) s = .next { s with
      state := if b = 0x24#8 then 1#3 else 0#3, evCode := 0#3, evValid := false }

/-- 40_sync_fsm.md R102. -/
def Obligations.HeaderTest : Prop :=
  ∀ (s : State) (b : Byte), s.Legal → s.state = 1#3 →
    transact (.byte b) s = .next { s with
      state := if b = 0x54#8 then 2#3 else 0#3, evCode := 0#3, evValid := false }

/-- 40_sync_fsm.md R103: a tag with a payload. -/
def Obligations.TagWithPayloadAccepted : Prop :=
  ∀ (s : State) (k : FrameKind), s.Legal → s.state = 2#3 → 0 < k.len →
    transact (.byte k.tag) s = .next { s with
      tag := k.tag, len := BitVec.ofNat 4 k.len, idx := 0#4, acc := 0x00#8, state := 3#3
      evCode := 0#3, evValid := false }

/-- 40_sync_fsm.md R105: the Tuning tag. -/
def Obligations.TuningTagAccepted : Prop :=
  ∀ s : State, s.Legal → s.state = 2#3 →
    transact (.byte 0x54#8) s = .next { s with
      tag := 0x54#8, len := 0#4, idx := 0#4, acc := 0x00#8, state := 4#3, evCode := 0#3, evValid := false }

/-- 40_sync_fsm.md R104: an unknown tag. -/
def Obligations.UnknownTagCounted : Prop :=
  ∀ (s : State) (b : Byte), s.Legal → s.state = 2#3 → known b = false →
    transact (.byte b) s = .next { s with
      cntUnknown := s.cntUnknown + 1, state := 0#3, evCode := 2#3, evValid := true }

/-- 40_sync_fsm.md R110 and R111: a payload byte, and the last one. `idx` names one of the fourteen byte
registers. -/
def Obligations.PayloadByteStored : Prop :=
  ∀ (s : State) (b : Byte) (h : s.idx.toNat < 14), s.Legal → s.state = 3#3 →
    (s.idx.toNat + 1 < s.len.toNat →
      transact (.byte b) s = .next { s with
        buf := s.buf.set s.idx.toNat b h, acc := s.acc ^^^ b, idx := s.idx + 1, state := 3#3
        evCode := 0#3, evValid := false }) ∧
    (s.idx.toNat + 1 = s.len.toNat →
      transact (.byte b) s = .next { s with
        buf := s.buf.set s.idx.toNat b h, acc := s.acc ^^^ b, idx := s.idx + 1, state := 4#3
        evCode := 0#3, evValid := false })

/-- 40_sync_fsm.md R106: a matching checksum byte emits the tag and the payload collected, with the record
those two decode to. -/
def Obligations.MatchingChecksumEmits : Prop :=
  ∀ (s : State) (k : FrameKind), s.Legal → s.state = 4#3 → s.tag = k.tag → s.len.toNat = k.len →
    ∃ r, decodeRecord s.tag (s.buf.toList.take s.len.toNat) = some r ∧
      transact (.byte s.acc) s = .next { s with
        frames := s.frames ++ [⟨s.tag, s.buf.toList.take s.len.toNat⟩]
        fo := some ⟨⟨s.tag, s.buf.toList.take s.len.toNat⟩, r⟩
        state := 0#3, evCode := 1#3, evValid := true }

/-- 40_sync_fsm.md R107. -/
def Obligations.WrongChecksumDrops : Prop :=
  ∀ (s : State) (b : Byte), s.Legal → s.state = 4#3 → b ≠ s.acc →
    transact (.byte b) s = .next { s with
      cntCksum := s.cntCksum + 1, state := 0#3, evCode := 3#3, evValid := true }

/-- 40_sync_fsm.md R108: the parse ends outside a payload. -/
def Obligations.StreamEndTerminates : Prop :=
  ∀ s : State, s.Legal → (s.state = 0#3 ∨ s.state = 1#3 ∨ s.state = 2#3 ∨ s.state = 4#3) →
    transact .endOfStream s = .next { s with state := 5#3, termCause := 1#2, evCode := 5#3, evValid := true } ∧
    transact .readError s = .next { s with state := 5#3, termCause := 2#2, evCode := 5#3, evValid := true }

/-- 40_sync_fsm.md R112: the parse ends inside a payload, for either value of `MALFORMED_ON_EMPTY_EOS`; the
block has the value `true`. -/
def Obligations.ShortPayloadCounted : Prop :=
  (∀ s : State, s.Legal → s.state = 3#3 →
    transact .endOfStream s = .next (shortPayload true .streamEnd s) ∧
    transact .readError s = .next (shortPayload true .streamError s)) ∧
  (∀ (s : State) (c : TermCause), shortPayload true c s = { s with
    cntMalformed := s.cntMalformed + 1, state := 5#3, termCause := c.code, evCode := 4#3, evValid := true }) ∧
  (∀ (s : State) (c : TermCause), 0 < s.idx.toNat → shortPayload false c s = shortPayload true c s) ∧
  (∀ (s : State) (c : TermCause), s.idx = 0#4 → shortPayload false c s = { s with
    state := 5#3, termCause := c.code, evCode := 5#3, evValid := true })

/-- 40_sync_fsm.md R113 and 93_implementation_defined.md I1 and I2: unused codes are refused; which of two is named
first is the model's choice (log entry 8). The last clause: a matching checksum byte is refused where `tag` is unknown,
as I3 asks, and, by the model's choice (log entry 8), where a known `tag` stands under a `len` that is not
`LEN(tag)`, 15 among them. -/
def Obligations.UnusedCodesRefused : Prop :=
  (∀ (s : State) (sym : Symbol),
    (s.state = 6#3 ∨ s.state = 7#3 → transact sym s = .refused .illegalState ∧ step s = .refused .illegalState) ∧
    (s.state.toNat ≤ 5 → s.termCause = 3#2 → transact sym s = .refused .illegalTermCause) ∧
    (s.state.toNat ≤ 5 → s.termCause ≠ 3#2 → s.evCode = 6#3 ∨ s.evCode = 7#3 →
      transact sym s = .refused .illegalEventCode)) ∧
  ∀ s : State, s.Legal → s.state = 4#3 → (¬ ∃ k : FrameKind, s.tag = k.tag ∧ s.len.toNat = k.len) →
    transact (.byte s.acc) s = .refused .noRecord

/-- 40_sync_fsm.md R109: in `S_DONE` the block reads nothing and its registers stay, for any number of steps;
the port registers empty as the consumer takes the last frame (that a step answers there is the model's, log
entries 1 and 3). -/
def Obligations.DoneReadsNothing : Prop :=
  ∀ (n : Nat) (s : State), s.Legal → s.state = 5#3 →
    runSteps (n + 1) s = .next { s with fo := none, evValid := false } ∧
    (∀ p : PortIn, inReady p s = false) ∧ ∀ sym : Symbol, transact sym s = .refused .parseEnded

/-! ### Steps -/

/-- A step that reads a checksum byte runs the frame the registers spell: the symbol leaves the stream and
the ready consumer has taken the held frame (log entry 1), the rest is the frame's meaning. `len` is in the range of
10_state.md R23, as in every state with the invariant. -/
def Obligations.StepRunsDecodedFrame : Prop :=
  ∀ (s : State) (b : Byte) (rest : List Symbol) (i : Instr), s.Legal → s.state = 4#3 → s.len.toNat ≤ 14 →
    s.input = .byte b :: rest → frameOf s.tag (s.buf.toList.take s.len.toNat) b = some i →
    step s = exec i { s with input := rest, fo := none, evValid := false }

/-- A step reads exactly the next symbol of the stream, and without one it waits (10_state.md R41; the wait
and the port registers are the model's, log entries 1 and 2). -/
def Obligations.StepTakesOneSymbol : Prop :=
  ∀ s : State, s.Legal →
    (∀ sym rest, s.state ≠ 5#3 → s.input = sym :: rest →
      step s = transact sym { s with input := rest, fo := none, evValid := false }) ∧
    (s.input = [] → step s = .next { s with fo := none, evValid := false })

/-- Reading the bytes of any frame from the search for a sentinel fetches that frame, and the last byte runs
it: `len + 4` steps are its meaning at the state its own bytes have set up (log entries 1 and 4). -/
def Obligations.FrameBytesFetchThenRun : Prop :=
  ∀ (i : Instr) (s : State) (rest : List Symbol), s.Legal → s.state = 0#3 →
    s.input = byteSymbols (encode i) ++ rest →
    ∃ u, runSteps (i.kind.len + 3) s = .next u ∧ u.state = 4#3 ∧ u.tag = i.kind.tag ∧
      u.len.toNat = i.kind.len ∧ u.idx = u.len ∧ u.buf.toList.take u.len.toNat = i.payload ∧
      u.buf.toList.drop u.len.toNat = s.buf.toList.drop u.len.toNat ∧ u.acc = checksum i.payload ∧
      u.input = .byte i.ck :: rest ∧ u.frames = s.frames ∧ u.cntUnknown = s.cntUnknown ∧
      u.cntMalformed = s.cntMalformed ∧ u.cntCksum = s.cntCksum ∧ u.termCause = s.termCause ∧
      runSteps (i.kind.len + 4) s = exec i { u with input := rest, fo := none, evValid := false }

/-- Every well-formed frame read from the search for a sentinel yields exactly one emitted frame, with its
payload and record, and no counter moves (95_test_vectors.md E9; steps as in log entry 1). -/
def Obligations.WellFormedFrameIsDelivered : Prop :=
  ∀ (i : Instr) (s : State) (rest : List Symbol), s.Legal → s.state = 0#3 → i.wellFormed = true →
    s.input = byteSymbols (frameBytes i.kind.tag i.payload) ++ rest →
    ∃ t, runSteps (i.kind.len + 4) s = .next t ∧ t.input = rest ∧ t.state = 0#3 ∧
      t.frames = s.frames ++ [⟨i.kind.tag, i.payload⟩] ∧
      t.fo = some ⟨⟨i.kind.tag, i.payload⟩, recordOf i⟩ ∧ t.evCode = 1#3 ∧ t.evValid = true ∧
      t.cntUnknown = s.cntUnknown ∧ t.cntMalformed = s.cntMalformed ∧ t.cntCksum = s.cntCksum ∧
      t.termCause = s.termCause

/-- 70_reset_and_hazards.md R241: a byte rejected as a header is not tested as a sentinel, so the frame that
starts at the second `'$'` is missed without a count (steps as in log entry 1). -/
def Obligations.NoOverlappedSentinel : Prop :=
  ∀ (s : State) (rest : List Symbol), s.Legal → s.state = 0#3 →
    s.input = byteSymbols [0x24#8, 0x24#8, 0x54#8] ++ rest →
    runSteps 3 s = .next { s with input := rest, fo := none, evCode := 0#3, evValid := false }

/-! ### The whole machine -/

/-- 70_reset_and_hazards.md R230, the registers a client can observe. -/
def Obligations.ResetState : Prop :=
  State.reset.state = 0#3 ∧ State.reset.cntUnknown = 0 ∧ State.reset.cntMalformed = 0 ∧
  State.reset.cntCksum = 0 ∧ State.reset.frames = [] ∧ State.reset.fo = none ∧
  State.reset.termCause = 0#2 ∧ State.reset.evCode = 0#3 ∧ State.reset.evValid = false ∧
  State.reset.done = false

/-- The invariant holds at reset. -/
def Obligations.InvariantAtReset : Prop := State.reset.Inv

/-- Every step keeps the invariant, and so does every clock cycle, whatever the outside drives and whichever
symbol is taken (10_state.md R24, R27, R33, 42_checksum.md R182). -/
def Obligations.StepKeepsInvariant : Prop :=
  ∀ s : State, s.Inv → (∀ t, step s = .next t → t.Inv) ∧
    ∀ (sym : Symbol) (p : PortIn) (t : State), cycleTaking sym p s = .next t → t.Inv

/-- 60_exceptions.md R217: no byte, frame or event makes the block stop; `transact` answers except in `S_DONE`.
That `step` and a cycle answer in `S_DONE` too, where R109 gives no step, is the model's choice (log entries 1
and 3). -/
def Obligations.NothingStopsTheBlock : Prop :=
  ∀ s : State, s.Inv → (∃ t, step s = .next t) ∧
    (∀ (sym : Symbol) (p : PortIn), ∃ t, cycleTaking sym p s = .next t) ∧
    ∀ sym : Symbol, s.done = false → ∃ t, transact sym s = .next t

/-- 10_state.md R34: no step moves more than one of the three counters, and a counter that moves grows by
one. -/
def Obligations.CountersAreIndependent : Prop :=
  ∀ (sym : Symbol) (s t : State), transact sym s = .next t →
    (t.cntUnknown = s.cntUnknown ∧ t.cntMalformed = s.cntMalformed ∧ t.cntCksum = s.cntCksum) ∨
    (t.cntUnknown = s.cntUnknown + 1 ∧ t.evCode = 2#3 ∧ t.cntMalformed = s.cntMalformed ∧ t.cntCksum = s.cntCksum) ∨
    (t.cntUnknown = s.cntUnknown ∧ t.cntMalformed = s.cntMalformed + 1 ∧ t.evCode = 4#3 ∧ t.cntCksum = s.cntCksum) ∨
    (t.cntUnknown = s.cntUnknown ∧ t.cntMalformed = s.cntMalformed ∧ t.cntCksum = s.cntCksum + 1 ∧ t.evCode = 3#3)

/-- 10_state.md R33: `frames` only ever grows, by the tag and payload of the frame just validated. -/
def Obligations.FramesAreAppendOnly : Prop :=
  ∀ (sym : Symbol) (s t : State), transact sym s = .next t →
    (t.frames = s.frames ∧ t.evCode ≠ 1#3) ∨
    (s.state = 4#3 ∧ sym = .byte s.acc ∧ t.evCode = 1#3 ∧
      t.frames = s.frames ++ [⟨s.tag, s.buf.toList.take s.len.toNat⟩])

/-- Who writes the frame-in-progress registers and the cause (10_state.md R22, R25, R26, R27). -/
def Obligations.RegistersHaveOneWriter : Prop :=
  ∀ (sym : Symbol) (s t : State), transact sym s = .next t →
    (t.tag ≠ s.tag ∨ t.len ≠ s.len → s.state = 2#3 ∧ ∃ k : FrameKind, sym = .byte k.tag ∧ t.tag = k.tag ∧
      t.len.toNat = k.len) ∧
    (∀ (j : Nat) (h : j < 14), t.buf[j] ≠ s.buf[j] → s.state = 3#3 ∧ s.idx.toNat = j ∧ sym = .byte t.buf[j]) ∧
    (t.acc ≠ s.acc → (s.state = 2#3 ∧ t.acc = 0x00#8) ∨ (s.state = 3#3 ∧ ∃ b, sym = .byte b ∧ t.acc = s.acc ^^^ b)) ∧
    (t.termCause ≠ s.termCause → t.state = 5#3 ∧ s.state ≠ 5#3)

/-- 60_exceptions.md R206: the counters wrap, without an event of their own. -/
def Obligations.CountersWrap : Prop :=
  (∀ c : BitVec 32, (bump c).toNat = (c.toNat + 1) % 2 ^ 32) ∧
  ∀ (s : State) (b : Byte), s.Legal → s.state = 2#3 → known b = false → s.cntUnknown = BitVec.allOnes 32 →
    ∃ t, transact (.byte b) s = .next t ∧ t.cntUnknown = 0 ∧ t.evCode = 2#3

/-- What the registers of a frame in progress hold before a tag is accepted cannot be observed
(70_reset_and_hazards.md R230, I4): two states that differ only there, outside a frame, show the same for
any number of steps. -/
def Obligations.StaleRegistersAreInvisible : Prop :=
  ∀ (n : Nat) (s t : State), s.visible = t.visible → s.state ≠ 3#3 → s.state ≠ 4#3 →
    visibleOutcome (runSteps n s) = visibleOutcome (runSteps n t)

/-! ### The ports -/

/-- 10_state.md R42: when a symbol can be taken. -/
def Obligations.InReady : Prop :=
  ∀ (p : PortIn) (s : State),
    inReady p s = true ↔ p.rst = false ∧ s.state ≠ 5#3 ∧ (s.fo = none ∨ p.foReady = true)

/-- 10_state.md R41: `Error` over `End` over the byte, a symbol offered and taken is one transaction, and
without one the registers stay. -/
def Obligations.InputPort : Prop :=
  ∀ (p : PortIn) (s : State),
    (p.inErr = true → p.symbol = .readError) ∧
    (p.inErr = false → p.inEos = true → p.symbol = .endOfStream) ∧
    (p.inErr = false → p.inEos = false → p.symbol = .byte p.inData) ∧
    (p.inValid = true → inReady p s = true → cycle p s = transact p.symbol (handOver p s)) ∧
    (p.rst = false → s.Legal → p.inValid = false ∨ inReady p s = false →
      ∃ t, (∀ sym : Symbol, cycleTaking sym p s = .next t) ∧ { t with fo := s.fo, evValid := s.evValid } = s)

/-- 70_reset_and_hazards.md R231: reset has priority and takes no symbol, from any state; that it leaves the
stream as it is, and acts in unused states too, is log entry 12. -/
def Obligations.ResetHasPriority : Prop :=
  ∀ (sym : Symbol) (p : PortIn) (s : State), p.rst = true →
    cycleTaking sym p s = .next { State.reset with input := s.input } ∧ inReady p s = false ∧ inTransfer p s = false

/-- 10_state.md R45: the event port shows an event in exactly the cycle after a step that signalled one, with
its code; a cycle that takes no symbol keeps the code. -/
def Obligations.EventStrobe : Prop :=
  ∀ (sym : Symbol) (p q : PortIn) (s t : State), cycleTaking sym p s = .next t →
    ((outputs q t).evValid = true ↔ inTransfer p s = true ∧ t.evCode ≠ 0#3) ∧ (outputs q t).evCode = t.evCode ∧
    (inTransfer p s = false → p.rst = false → t.evCode = s.evCode)

/-- 10_state.md R44 and R43, 41_frame_decoders.md R130: the status port shows the registers, and the frame port the
held frame: its tag, its length, payload byte `i` on bits `8i+7 : 8i` with zero above the payload, and its record on
the signals of its kind, those of the other kinds 0. The frame signals are given only while `fo_valid = 1` (log
entry 10), and each kind has its own record signals (log entry 13). In a state with the invariant the length is
`LEN(fo_tag)` and the record `Decode(fo_tag, payload)`. -/
def Obligations.OutputPorts : Prop :=
  ∀ (p : PortIn) (s : State),
    ((outputs p s).stState = s.state ∧ ((outputs p s).stDone = true ↔ s.state = 5#3) ∧
      (outputs p s).stTerm = s.termCause ∧ (outputs p s).cntUnknown = s.cntUnknown ∧
      (outputs p s).cntMalformed = s.cntMalformed ∧ (outputs p s).cntCksum = s.cntCksum ∧
      (outputs p s).inReady = inReady p s) ∧
    (s.fo = none → (outputs p s).foValid = false ∧ (outputs p s).fo = none) ∧
    ∀ h : HeldFrame, s.fo = some h →
      (outputs p s).foValid = true ∧
      ∃ f : FrameSignals, (outputs p s).fo = some f ∧
        f.foTag = h.frame.tag ∧ f.foLen = BitVec.ofNat 4 h.frame.payload.length ∧
        (∀ i, i < 14 → f.foPayload.extractLsb' (8 * i) 8 = h.frame.payload.getD i 0x00#8) ∧
        (f.foRec.gps = match h.record with
          | .gps r => r
          | _ => ⟨⟨0, 0, 0⟩, 0, 0, 0⟩) ∧
        (f.foRec.altitude = match h.record with
          | .altitude r => r
          | _ => ⟨0, 0, 0⟩) ∧
        (f.foRec.status = match h.record with
          | .status r => r
          | _ => ⟨0, 0, 0, 0, 0, 0, false, false, false⟩) ∧
        (f.foRec.origin = match h.record with
          | .origin r => r
          | _ => ⟨⟨0, 0, 0⟩, 0, 0⟩) ∧
        (f.foRec.navigation = match h.record with
          | .navigation r => r
          | _ => ⟨0, 0, 0, 0, 0, 0, false, false, false, false⟩) ∧
        (f.foRec.gpsExtended = match h.record with
          | .gpsExtended r => r
          | _ => ⟨0, 0, 0, 0⟩) ∧
        (s.Inv → ∃ k : FrameKind, f.foTag = k.tag ∧ f.foLen.toNat = k.len ∧
          decodeRecord f.foTag h.frame.payload = some h.record)

/-- The port-level block refines the transaction-level one (00_scope.md R7, 10_state.md R47): whatever the
handshakes do, and whichever symbol is taken from a producer that does not hold its offer (log entry 16), a run of
cycles without reset leaves what the transactions of the symbols it took leave, but for the port registers (log
entry 1), and the frames it held and emitted are those it transferred, in order, and the one it still holds. -/
def Obligations.PortsRefineTransactions : Prop :=
  ∀ (cs : List PortCycle) (l : Link) (tr : CycleTrace), (∀ c ∈ cs, c.signals.rst = false) →
    runCycles cs l = some tr →
    ∃ (u : State) (emitted : List HeldFrame), transactAll tr.taken l.block = .next u ∧
      { tr.final with fo := u.fo, evValid := u.evValid } = u ∧
      tr.final.frames = l.block.frames ++ emitted.map HeldFrame.frame ∧
      l.block.fo.toList ++ emitted = tr.sent ++ tr.final.fo.toList

/-- With a consumer that keeps accepting and a producer that keeps its offers stable and offers the end of the
stream, the run ends: `S_DONE`, with the last frame transferred (70_reset_and_hazards.md R244, 40_sync_fsm.md R116).
That an offer is not withdrawn (`OfferKept`) is the model's assumption, log entry 16. -/
def Obligations.FairParseEnds : Prop :=
  ∀ (env : Nat → PortCycle) (s : State), s.Inv → (∀ n, (env n).signals.rst = false) → AdmittedRun env s →
    FairConsumer env → StableProducer env s → OfferKept env s → EndOffered env →
    ∃ (n : Nat) (l : Link), portRun env s n = some l ∧ l.block.runOver = true ∧
      l.block.result = some ⟨l.block.frames, l.block.cntUnknown, l.block.cntMalformed, l.block.cntCksum,
        l.block.termCause⟩
end

