-- ==== Sys2Proof/Laws/Codec.lean ====
section
/-! SUPPORT. The registry, and fields against their bytes. -/

namespace Sys2Proof

open Sys2Proof.Machine

@[simp] theorem kindOf_tag (k : FrameKind) : kindOf k.tag = some k := by cases k <;> rfl

/-- A byte selects a kind exactly when it is the kind's tag. -/
theorem kindOf_eq_some {b : Byte} {k : FrameKind} : kindOf b = some k ↔ b = k.tag := by
  refine ⟨fun h => ?_, fun h => h ▸ kindOf_tag k⟩
  unfold kindOf at h
  repeat' split at h
  all_goals cases h
  all_goals assumption

theorem known_iff {b : Byte} : known b = true ↔ ∃ k, b = FrameKind.tag k := by
  simp [known, Option.isSome_iff_exists, kindOf_eq_some]

theorem FrameKind.len_le (k : FrameKind) : k.len ≤ Config.maxLen := by cases k <;> decide

@[simp] theorem FrameKind.len_toNat (k : FrameKind) : (BitVec.ofNat 4 k.len).toNat = k.len := by
  cases k <;> rfl

/-- What `frameOf` answers, whole. -/
theorem frameOf_eq_some {tag : Byte} {p : List Byte} {ck : Byte} {i : Instr} :
    frameOf tag p ck = some i ↔ ∃ k, tag = FrameKind.tag k ∧ p.length = k.len ∧ i = k.frame p ck := by
  unfold frameOf
  constructor
  · intro h
    split at h
    · cases h
    · rename_i k hk
      split at h
      · exact ⟨k, kindOf_eq_some.mp hk, ‹_›, (Option.some.inj h).symm⟩
      · cases h
  · rintro ⟨k, rfl, hp, rfl⟩
    simp [hp]

@[simp] theorem FrameKind.frame_kind (k : FrameKind) (p : List Byte) (ck : Byte) : (k.frame p ck).kind = k := by
  cases k <;> rfl

@[simp] theorem FrameKind.frame_ck (k : FrameKind) (p : List Byte) (ck : Byte) : (k.frame p ck).ck = ck := by
  cases k <;> rfl

/-! ### Fields and their bytes -/

theorem append_low {m n : Nat} (a : BitVec m) (b : BitVec n) : (a ++ b).extractLsb' 0 n = b := by
  apply BitVec.eq_of_getLsbD_eq
  intro i hi
  simp [BitVec.getLsbD_append, hi]

theorem append_high {m n : Nat} (a : BitVec m) (b : BitVec n) : (a ++ b).extractLsb' n m = a := by
  apply BitVec.eq_of_getLsbD_eq
  intro i hi
  simp [BitVec.getLsbD_append, hi]

theorem bytes16_le (b0 b1 : Byte) : bytes16 (b1 ++ b0) = [b0, b1] := by
  simp only [bytes16, append_low b1 b0, append_high b1 b0]

theorem bytes32_le (b0 b1 b2 b3 : Byte) : bytes32 (b3 ++ b2 ++ b1 ++ b0) = [b0, b1, b2, b3] := by
  have pick : ∀ (j : Nat) (b : Byte),
      (∀ i < 8, (b3 ++ b2 ++ b1 ++ b0).getLsbD (j + i) = b.getLsbD i) →
        (b3 ++ b2 ++ b1 ++ b0).extractLsb' j 8 = b := by
    intro j b h
    apply BitVec.eq_of_getLsbD_eq
    intro i hi
    simpa [hi] using h i hi
  unfold bytes32
  rw [pick 0 b0, pick 8 b1, pick 16 b2, pick 24 b3]
  all_goals
    intro i hi
    simp only [BitVec.getLsbD_append]
    repeat' split
    all_goals first | omega | (congr 1; omega)

theorem le_bytes16 (v : Half) : v.extractLsb' 8 8 ++ v.extractLsb' 0 8 = v := by
  apply BitVec.eq_of_getLsbD_eq
  intro i hi
  simp only [BitVec.getLsbD_append, BitVec.getLsbD_extractLsb']
  split
  · simp [*]
  · rw [show 8 + (i - 8) = i by omega]
    simp
    omega

theorem le_bytes32 (v : Word) :
    v.extractLsb' 24 8 ++ v.extractLsb' 16 8 ++ v.extractLsb' 8 8 ++ v.extractLsb' 0 8 = v := by
  apply BitVec.eq_of_getLsbD_eq
  intro i hi
  simp only [BitVec.getLsbD_append, BitVec.getLsbD_extractLsb']
  repeat' split
  · simp [*]
  · rw [show 8 + (i - 8) = i by omega]
    simp [*]
  · rw [show 16 + (i - 8 - 8) = i by omega]
    simp [*]
  · rw [show 24 + (i - 8 - 8 - 8) = i by omega, decide_eq_true (by omega : i - 8 - 8 - 8 < 8)]
    simp

end Sys2Proof
end

