-- ==== Sys2Proof/Laws/State.lean ====
section
/-! SUPPORT. What each operation leaves in each field of the state. -/

namespace Sys2Proof.Machine

variable (s : State)

/-! ### raise -/

@[simp] theorem raise_state (e : Event) (p : Phase) : (raise e p s).state = p.code := rfl
@[simp] theorem raise_tag (e : Event) (p : Phase) : (raise e p s).tag = s.tag := rfl
@[simp] theorem raise_len (e : Event) (p : Phase) : (raise e p s).len = s.len := rfl
@[simp] theorem raise_idx (e : Event) (p : Phase) : (raise e p s).idx = s.idx := rfl
@[simp] theorem raise_buf (e : Event) (p : Phase) : (raise e p s).buf = s.buf := rfl
@[simp] theorem raise_acc (e : Event) (p : Phase) : (raise e p s).acc = s.acc := rfl
@[simp] theorem raise_termCause (e : Event) (p : Phase) : (raise e p s).termCause = s.termCause := rfl
@[simp] theorem raise_cntUnknown (e : Event) (p : Phase) : (raise e p s).cntUnknown = s.cntUnknown := rfl
@[simp] theorem raise_cntMalformed (e : Event) (p : Phase) : (raise e p s).cntMalformed = s.cntMalformed := rfl
@[simp] theorem raise_cntCksum (e : Event) (p : Phase) : (raise e p s).cntCksum = s.cntCksum := rfl
@[simp] theorem raise_frames (e : Event) (p : Phase) : (raise e p s).frames = s.frames := rfl
@[simp] theorem raise_evCode (e : Event) (p : Phase) : (raise e p s).evCode = e.code := rfl
@[simp] theorem raise_evValid (e : Event) (p : Phase) : (raise e p s).evValid = (e != .noEvent) := rfl
@[simp] theorem raise_fo (e : Event) (p : Phase) : (raise e p s).fo = s.fo := rfl
@[simp] theorem raise_input (e : Event) (p : Phase) : (raise e p s).input = s.input := rfl

/-! ### goTo -/

@[simp] theorem goTo_state (p : Phase) : (goTo p s).state = p.code := rfl
@[simp] theorem goTo_tag (p : Phase) : (goTo p s).tag = s.tag := rfl
@[simp] theorem goTo_len (p : Phase) : (goTo p s).len = s.len := rfl
@[simp] theorem goTo_idx (p : Phase) : (goTo p s).idx = s.idx := rfl
@[simp] theorem goTo_buf (p : Phase) : (goTo p s).buf = s.buf := rfl
@[simp] theorem goTo_acc (p : Phase) : (goTo p s).acc = s.acc := rfl
@[simp] theorem goTo_termCause (p : Phase) : (goTo p s).termCause = s.termCause := rfl
@[simp] theorem goTo_cntUnknown (p : Phase) : (goTo p s).cntUnknown = s.cntUnknown := rfl
@[simp] theorem goTo_cntMalformed (p : Phase) : (goTo p s).cntMalformed = s.cntMalformed := rfl
@[simp] theorem goTo_cntCksum (p : Phase) : (goTo p s).cntCksum = s.cntCksum := rfl
@[simp] theorem goTo_frames (p : Phase) : (goTo p s).frames = s.frames := rfl
@[simp] theorem goTo_evCode (p : Phase) : (goTo p s).evCode = 0#3 := rfl
@[simp] theorem goTo_evValid (p : Phase) : (goTo p s).evValid = false := rfl
@[simp] theorem goTo_fo (p : Phase) : (goTo p s).fo = s.fo := rfl
@[simp] theorem goTo_input (p : Phase) : (goTo p s).input = s.input := rfl

/-! ### storePayloadByte -/

@[simp] theorem storePayloadByte_state (b : Byte) : (storePayloadByte b s).state = s.state := rfl
@[simp] theorem storePayloadByte_tag (b : Byte) : (storePayloadByte b s).tag = s.tag := rfl
@[simp] theorem storePayloadByte_len (b : Byte) : (storePayloadByte b s).len = s.len := rfl
@[simp] theorem storePayloadByte_idx (b : Byte) : (storePayloadByte b s).idx = s.idx + 1#4 := rfl
@[simp] theorem storePayloadByte_buf (b : Byte) : (storePayloadByte b s).buf = s.buf.setIfInBounds s.idx.toNat b := rfl
@[simp] theorem storePayloadByte_acc (b : Byte) : (storePayloadByte b s).acc = checksumAccumulate s.acc b := rfl
@[simp] theorem storePayloadByte_termCause (b : Byte) : (storePayloadByte b s).termCause = s.termCause := rfl
@[simp] theorem storePayloadByte_cntUnknown (b : Byte) : (storePayloadByte b s).cntUnknown = s.cntUnknown := rfl
@[simp] theorem storePayloadByte_cntMalformed (b : Byte) : (storePayloadByte b s).cntMalformed = s.cntMalformed := rfl
@[simp] theorem storePayloadByte_cntCksum (b : Byte) : (storePayloadByte b s).cntCksum = s.cntCksum := rfl
@[simp] theorem storePayloadByte_frames (b : Byte) : (storePayloadByte b s).frames = s.frames := rfl
@[simp] theorem storePayloadByte_evCode (b : Byte) : (storePayloadByte b s).evCode = s.evCode := rfl
@[simp] theorem storePayloadByte_evValid (b : Byte) : (storePayloadByte b s).evValid = s.evValid := rfl
@[simp] theorem storePayloadByte_fo (b : Byte) : (storePayloadByte b s).fo = s.fo := rfl
@[simp] theorem storePayloadByte_input (b : Byte) : (storePayloadByte b s).input = s.input := rfl

/-! ### emit -/

@[simp] theorem emit_state (f : Frame) (r : FrameRecord) : (emit f r s).state = s.state := rfl
@[simp] theorem emit_tag (f : Frame) (r : FrameRecord) : (emit f r s).tag = s.tag := rfl
@[simp] theorem emit_len (f : Frame) (r : FrameRecord) : (emit f r s).len = s.len := rfl
@[simp] theorem emit_idx (f : Frame) (r : FrameRecord) : (emit f r s).idx = s.idx := rfl
@[simp] theorem emit_buf (f : Frame) (r : FrameRecord) : (emit f r s).buf = s.buf := rfl
@[simp] theorem emit_acc (f : Frame) (r : FrameRecord) : (emit f r s).acc = s.acc := rfl
@[simp] theorem emit_termCause (f : Frame) (r : FrameRecord) : (emit f r s).termCause = s.termCause := rfl
@[simp] theorem emit_cntUnknown (f : Frame) (r : FrameRecord) : (emit f r s).cntUnknown = s.cntUnknown := rfl
@[simp] theorem emit_cntMalformed (f : Frame) (r : FrameRecord) : (emit f r s).cntMalformed = s.cntMalformed := rfl
@[simp] theorem emit_cntCksum (f : Frame) (r : FrameRecord) : (emit f r s).cntCksum = s.cntCksum := rfl
@[simp] theorem emit_frames (f : Frame) (r : FrameRecord) : (emit f r s).frames = s.frames ++ [f] := rfl
@[simp] theorem emit_evCode (f : Frame) (r : FrameRecord) : (emit f r s).evCode = s.evCode := rfl
@[simp] theorem emit_evValid (f : Frame) (r : FrameRecord) : (emit f r s).evValid = s.evValid := rfl
@[simp] theorem emit_fo (f : Frame) (r : FrameRecord) : (emit f r s).fo = some ⟨f, r⟩ := rfl
@[simp] theorem emit_input (f : Frame) (r : FrameRecord) : (emit f r s).input = s.input := rfl

/-! ### raiseUnknownTag -/

@[simp] theorem raiseUnknownTag_state : (raiseUnknownTag s).state = 0#3 := rfl
@[simp] theorem raiseUnknownTag_tag : (raiseUnknownTag s).tag = s.tag := rfl
@[simp] theorem raiseUnknownTag_len : (raiseUnknownTag s).len = s.len := rfl
@[simp] theorem raiseUnknownTag_idx : (raiseUnknownTag s).idx = s.idx := rfl
@[simp] theorem raiseUnknownTag_buf : (raiseUnknownTag s).buf = s.buf := rfl
@[simp] theorem raiseUnknownTag_acc : (raiseUnknownTag s).acc = s.acc := rfl
@[simp] theorem raiseUnknownTag_termCause : (raiseUnknownTag s).termCause = s.termCause := rfl
@[simp] theorem raiseUnknownTag_cntUnknown : (raiseUnknownTag s).cntUnknown = bump s.cntUnknown := rfl
@[simp] theorem raiseUnknownTag_cntMalformed : (raiseUnknownTag s).cntMalformed = s.cntMalformed := rfl
@[simp] theorem raiseUnknownTag_cntCksum : (raiseUnknownTag s).cntCksum = s.cntCksum := rfl
@[simp] theorem raiseUnknownTag_frames : (raiseUnknownTag s).frames = s.frames := rfl
@[simp] theorem raiseUnknownTag_evCode : (raiseUnknownTag s).evCode = 2#3 := rfl
@[simp] theorem raiseUnknownTag_evValid : (raiseUnknownTag s).evValid = true := rfl
@[simp] theorem raiseUnknownTag_fo : (raiseUnknownTag s).fo = s.fo := rfl
@[simp] theorem raiseUnknownTag_input : (raiseUnknownTag s).input = s.input := rfl

/-! ### raiseCksumFail -/

@[simp] theorem raiseCksumFail_state : (raiseCksumFail s).state = 0#3 := rfl
@[simp] theorem raiseCksumFail_tag : (raiseCksumFail s).tag = s.tag := rfl
@[simp] theorem raiseCksumFail_len : (raiseCksumFail s).len = s.len := rfl
@[simp] theorem raiseCksumFail_idx : (raiseCksumFail s).idx = s.idx := rfl
@[simp] theorem raiseCksumFail_buf : (raiseCksumFail s).buf = s.buf := rfl
@[simp] theorem raiseCksumFail_acc : (raiseCksumFail s).acc = s.acc := rfl
@[simp] theorem raiseCksumFail_termCause : (raiseCksumFail s).termCause = s.termCause := rfl
@[simp] theorem raiseCksumFail_cntUnknown : (raiseCksumFail s).cntUnknown = s.cntUnknown := rfl
@[simp] theorem raiseCksumFail_cntMalformed : (raiseCksumFail s).cntMalformed = s.cntMalformed := rfl
@[simp] theorem raiseCksumFail_cntCksum : (raiseCksumFail s).cntCksum = bump s.cntCksum := rfl
@[simp] theorem raiseCksumFail_frames : (raiseCksumFail s).frames = s.frames := rfl
@[simp] theorem raiseCksumFail_evCode : (raiseCksumFail s).evCode = 3#3 := rfl
@[simp] theorem raiseCksumFail_evValid : (raiseCksumFail s).evValid = true := rfl
@[simp] theorem raiseCksumFail_fo : (raiseCksumFail s).fo = s.fo := rfl
@[simp] theorem raiseCksumFail_input : (raiseCksumFail s).input = s.input := rfl

/-! ### raiseMalformedEnd -/

@[simp] theorem raiseMalformedEnd_state (c : TermCause) : (raiseMalformedEnd c s).state = 5#3 := rfl
@[simp] theorem raiseMalformedEnd_tag (c : TermCause) : (raiseMalformedEnd c s).tag = s.tag := rfl
@[simp] theorem raiseMalformedEnd_len (c : TermCause) : (raiseMalformedEnd c s).len = s.len := rfl
@[simp] theorem raiseMalformedEnd_idx (c : TermCause) : (raiseMalformedEnd c s).idx = s.idx := rfl
@[simp] theorem raiseMalformedEnd_buf (c : TermCause) : (raiseMalformedEnd c s).buf = s.buf := rfl
@[simp] theorem raiseMalformedEnd_acc (c : TermCause) : (raiseMalformedEnd c s).acc = s.acc := rfl
@[simp] theorem raiseMalformedEnd_termCause (c : TermCause) : (raiseMalformedEnd c s).termCause = c.code := rfl
@[simp] theorem raiseMalformedEnd_cntUnknown (c : TermCause) : (raiseMalformedEnd c s).cntUnknown = s.cntUnknown := rfl
@[simp] theorem raiseMalformedEnd_cntMalformed (c : TermCause) : (raiseMalformedEnd c s).cntMalformed = bump s.cntMalformed := rfl
@[simp] theorem raiseMalformedEnd_cntCksum (c : TermCause) : (raiseMalformedEnd c s).cntCksum = s.cntCksum := rfl
@[simp] theorem raiseMalformedEnd_frames (c : TermCause) : (raiseMalformedEnd c s).frames = s.frames := rfl
@[simp] theorem raiseMalformedEnd_evCode (c : TermCause) : (raiseMalformedEnd c s).evCode = 4#3 := rfl
@[simp] theorem raiseMalformedEnd_evValid (c : TermCause) : (raiseMalformedEnd c s).evValid = true := rfl
@[simp] theorem raiseMalformedEnd_fo (c : TermCause) : (raiseMalformedEnd c s).fo = s.fo := rfl
@[simp] theorem raiseMalformedEnd_input (c : TermCause) : (raiseMalformedEnd c s).input = s.input := rfl

/-! ### raiseTerminated -/

@[simp] theorem raiseTerminated_state (c : TermCause) : (raiseTerminated c s).state = 5#3 := rfl
@[simp] theorem raiseTerminated_tag (c : TermCause) : (raiseTerminated c s).tag = s.tag := rfl
@[simp] theorem raiseTerminated_len (c : TermCause) : (raiseTerminated c s).len = s.len := rfl
@[simp] theorem raiseTerminated_idx (c : TermCause) : (raiseTerminated c s).idx = s.idx := rfl
@[simp] theorem raiseTerminated_buf (c : TermCause) : (raiseTerminated c s).buf = s.buf := rfl
@[simp] theorem raiseTerminated_acc (c : TermCause) : (raiseTerminated c s).acc = s.acc := rfl
@[simp] theorem raiseTerminated_termCause (c : TermCause) : (raiseTerminated c s).termCause = c.code := rfl
@[simp] theorem raiseTerminated_cntUnknown (c : TermCause) : (raiseTerminated c s).cntUnknown = s.cntUnknown := rfl
@[simp] theorem raiseTerminated_cntMalformed (c : TermCause) : (raiseTerminated c s).cntMalformed = s.cntMalformed := rfl
@[simp] theorem raiseTerminated_cntCksum (c : TermCause) : (raiseTerminated c s).cntCksum = s.cntCksum := rfl
@[simp] theorem raiseTerminated_frames (c : TermCause) : (raiseTerminated c s).frames = s.frames := rfl
@[simp] theorem raiseTerminated_evCode (c : TermCause) : (raiseTerminated c s).evCode = 5#3 := rfl
@[simp] theorem raiseTerminated_evValid (c : TermCause) : (raiseTerminated c s).evValid = true := rfl
@[simp] theorem raiseTerminated_fo (c : TermCause) : (raiseTerminated c s).fo = s.fo := rfl
@[simp] theorem raiseTerminated_input (c : TermCause) : (raiseTerminated c s).input = s.input := rfl

/-! ### raiseFrameOk -/

@[simp] theorem raiseFrameOk_state (f : Frame) (r : FrameRecord) : (raiseFrameOk f r s).state = 0#3 := rfl
@[simp] theorem raiseFrameOk_tag (f : Frame) (r : FrameRecord) : (raiseFrameOk f r s).tag = s.tag := rfl
@[simp] theorem raiseFrameOk_len (f : Frame) (r : FrameRecord) : (raiseFrameOk f r s).len = s.len := rfl
@[simp] theorem raiseFrameOk_idx (f : Frame) (r : FrameRecord) : (raiseFrameOk f r s).idx = s.idx := rfl
@[simp] theorem raiseFrameOk_buf (f : Frame) (r : FrameRecord) : (raiseFrameOk f r s).buf = s.buf := rfl
@[simp] theorem raiseFrameOk_acc (f : Frame) (r : FrameRecord) : (raiseFrameOk f r s).acc = s.acc := rfl
@[simp] theorem raiseFrameOk_termCause (f : Frame) (r : FrameRecord) : (raiseFrameOk f r s).termCause = s.termCause := rfl
@[simp] theorem raiseFrameOk_cntUnknown (f : Frame) (r : FrameRecord) : (raiseFrameOk f r s).cntUnknown = s.cntUnknown := rfl
@[simp] theorem raiseFrameOk_cntMalformed (f : Frame) (r : FrameRecord) : (raiseFrameOk f r s).cntMalformed = s.cntMalformed := rfl
@[simp] theorem raiseFrameOk_cntCksum (f : Frame) (r : FrameRecord) : (raiseFrameOk f r s).cntCksum = s.cntCksum := rfl
@[simp] theorem raiseFrameOk_frames (f : Frame) (r : FrameRecord) : (raiseFrameOk f r s).frames = s.frames ++ [f] := rfl
@[simp] theorem raiseFrameOk_evCode (f : Frame) (r : FrameRecord) : (raiseFrameOk f r s).evCode = 1#3 := rfl
@[simp] theorem raiseFrameOk_evValid (f : Frame) (r : FrameRecord) : (raiseFrameOk f r s).evValid = true := rfl
@[simp] theorem raiseFrameOk_fo (f : Frame) (r : FrameRecord) : (raiseFrameOk f r s).fo = some ⟨f, r⟩ := rfl
@[simp] theorem raiseFrameOk_input (f : Frame) (r : FrameRecord) : (raiseFrameOk f r s).input = s.input := rfl

/-! ### acceptTag -/

@[simp] theorem acceptTag_state (b : Byte) (k : FrameKind) : (acceptTag b k s).state = (if k.len = 0 then Phase.cks else Phase.pay).code := rfl
@[simp] theorem acceptTag_tag (b : Byte) (k : FrameKind) : (acceptTag b k s).tag = b := rfl
@[simp] theorem acceptTag_len (b : Byte) (k : FrameKind) : (acceptTag b k s).len = BitVec.ofNat 4 k.len := rfl
@[simp] theorem acceptTag_idx (b : Byte) (k : FrameKind) : (acceptTag b k s).idx = 0#4 := rfl
@[simp] theorem acceptTag_buf (b : Byte) (k : FrameKind) : (acceptTag b k s).buf = s.buf := rfl
@[simp] theorem acceptTag_acc (b : Byte) (k : FrameKind) : (acceptTag b k s).acc = checksumClear := rfl
@[simp] theorem acceptTag_termCause (b : Byte) (k : FrameKind) : (acceptTag b k s).termCause = s.termCause := rfl
@[simp] theorem acceptTag_cntUnknown (b : Byte) (k : FrameKind) : (acceptTag b k s).cntUnknown = s.cntUnknown := rfl
@[simp] theorem acceptTag_cntMalformed (b : Byte) (k : FrameKind) : (acceptTag b k s).cntMalformed = s.cntMalformed := rfl
@[simp] theorem acceptTag_cntCksum (b : Byte) (k : FrameKind) : (acceptTag b k s).cntCksum = s.cntCksum := rfl
@[simp] theorem acceptTag_frames (b : Byte) (k : FrameKind) : (acceptTag b k s).frames = s.frames := rfl
@[simp] theorem acceptTag_evCode (b : Byte) (k : FrameKind) : (acceptTag b k s).evCode = 0#3 := rfl
@[simp] theorem acceptTag_evValid (b : Byte) (k : FrameKind) : (acceptTag b k s).evValid = false := rfl
@[simp] theorem acceptTag_fo (b : Byte) (k : FrameKind) : (acceptTag b k s).fo = s.fo := rfl
@[simp] theorem acceptTag_input (b : Byte) (k : FrameKind) : (acceptTag b k s).input = s.input := rfl

/-! ### handOver -/

@[simp] theorem handOver_state (p : PortIn) : (handOver p s).state = s.state := rfl
@[simp] theorem handOver_tag (p : PortIn) : (handOver p s).tag = s.tag := rfl
@[simp] theorem handOver_len (p : PortIn) : (handOver p s).len = s.len := rfl
@[simp] theorem handOver_idx (p : PortIn) : (handOver p s).idx = s.idx := rfl
@[simp] theorem handOver_buf (p : PortIn) : (handOver p s).buf = s.buf := rfl
@[simp] theorem handOver_acc (p : PortIn) : (handOver p s).acc = s.acc := rfl
@[simp] theorem handOver_termCause (p : PortIn) : (handOver p s).termCause = s.termCause := rfl
@[simp] theorem handOver_cntUnknown (p : PortIn) : (handOver p s).cntUnknown = s.cntUnknown := rfl
@[simp] theorem handOver_cntMalformed (p : PortIn) : (handOver p s).cntMalformed = s.cntMalformed := rfl
@[simp] theorem handOver_cntCksum (p : PortIn) : (handOver p s).cntCksum = s.cntCksum := rfl
@[simp] theorem handOver_frames (p : PortIn) : (handOver p s).frames = s.frames := rfl
@[simp] theorem handOver_evCode (p : PortIn) : (handOver p s).evCode = s.evCode := rfl
@[simp] theorem handOver_evValid (p : PortIn) : (handOver p s).evValid = false := rfl
@[simp] theorem handOver_fo (p : PortIn) : (handOver p s).fo = (if foTransfer p s then none else s.fo) := rfl
@[simp] theorem handOver_input (p : PortIn) : (handOver p s).input = s.input := rfl

end Sys2Proof.Machine
end

