-- ==== Sys2Proof/Laws/Ops.lean ====
section
/-! SUPPORT. What each shared operation can do, said once. -/

namespace Sys2Proof.Machine

open Host (Outcome)

@[simp] theorem Phase.ofCode_code (p : Phase) : Phase.ofCode p.code = some p := by cases p <;> rfl

theorem Phase.code_inj {p q : Phase} : p.code = q.code ↔ p = q := by cases p <;> cases q <;> decide

/-- A state code names a framing state exactly when it is at most 5. -/
theorem Phase.ofCode_eq_none {c : BitVec 3} : Phase.ofCode c = none ↔ 5 < c.toNat := by
  revert c; decide

theorem Phase.ofCode_eq_some {c : BitVec 3} {p : Phase} : Phase.ofCode c = some p ↔ c = p.code := by
  cases p <;> revert c <;> decide

theorem State.illegal_eq_none {s : State} : s.illegal = none ↔ s.Legal := by
  unfold State.illegal State.Legal
  repeat' split
  all_goals simp_all

theorem State.done_iff {s : State} : s.done = true ↔ s.state = Phase.code .done := by
  simp [State.done]

/-- Every frame's meaning is the close of the frame it spells. -/
theorem exec_eq_closeFrame (i : Instr) (s : State) :
    exec i s = closeFrame ⟨i.kind.tag, i.payload⟩ (recordOf i) i.ck s := by
  cases i <;> rfl

/-- Closing a frame emits it or counts it. -/
theorem closeFrame_cases (f : Frame) (r : FrameRecord) (ck : Byte) (s : State) :
    (ck = s.acc ∧ closeFrame f r ck s = .next (raiseFrameOk f r s)) ∨
      (ck ≠ s.acc ∧ closeFrame f r ck s = .next (raiseCksumFail s)) := by
  unfold closeFrame checksumMatch
  by_cases h : ck = s.acc <;> simp [h]

/-- `readTag` accepts a known tag or counts an unknown one. -/
theorem readTag_cases (b : Byte) (s : State) :
    (∃ k, b = FrameKind.tag k ∧ readTag b s = acceptTag b k s) ∨
      (kindOf b = none ∧ readTag b s = raiseUnknownTag s) := by
  unfold readTag
  cases h : kindOf b with
  | none => exact .inr ⟨rfl, rfl⟩
  | some k => exact .inl ⟨k, kindOf_eq_some.mp h, rfl⟩

/-- `shortPayload` counts or only terminates. -/
theorem shortPayload_cases (c : Bool) (cause : TermCause) (s : State) :
    shortPayload c cause s = raiseMalformedEnd cause s ∨
      (c = false ∧ s.idx.toNat = 0 ∧ shortPayload c cause s = raiseTerminated cause s) := by
  unfold shortPayload
  split
  · exact .inl rfl
  · cases c
    · exact .inr ⟨rfl, by simp_all⟩
    · simp_all

/-- The payload of a frame of kind `k` has its length. -/
theorem State.payload_length {s : State} {k : FrameKind} (h : s.len.toNat = k.len) : s.payload.length = k.len := by
  simpa [State.payload, h] using k.len_le

/-- The registers spell a frame exactly when `tag` and `len` belong to one kind. -/
theorem fetchedFrame_eq_some {ck : Byte} {s : State} {i : Instr} :
    fetchedFrame ck s = some i ↔ ∃ k, s.tag = FrameKind.tag k ∧ s.len.toNat = k.len ∧ i = k.frame s.payload ck := by
  unfold fetchedFrame
  have hp : s.payload.length = min s.len.toNat 14 := by simp [State.payload, Config.maxLen]
  split
  · rename_i h
    rw [frameOf_eq_some, hp, Nat.min_eq_left h]
  · rename_i h
    simp only [reduceCtorEq, false_iff, not_exists]
    rintro k ⟨_, hl, _⟩
    exact h (hl ▸ k.len_le)

/-- What a byte can do (40_sync_fsm.md R100): the next state is one of these. -/
theorem onByte_next {b : Byte} {s t : State} (h : onByte b s = .next t) :
    (s.state = Phase.code .sent ∧ t = findSentinel b s) ∨
    (s.state = Phase.code .hdr ∧ t = checkHeader b s) ∨
    (s.state = Phase.code .type ∧ t = readTag b s) ∨
    (s.state = Phase.code .pay ∧ s.idx.toNat < s.len.toNat ∧ s.idx.toNat < Config.maxLen ∧
      t = goTo (if s.idx.toNat + 1 = s.len.toNat then .cks else .pay) (storePayloadByte b s)) ∨
    (s.state = Phase.code .cks ∧ b ≠ s.acc ∧ t = raiseCksumFail s) ∨
    (s.state = Phase.code .cks ∧ b = s.acc ∧ ∃ k, s.tag = FrameKind.tag k ∧ s.len.toNat = k.len ∧
      t = raiseFrameOk ⟨k.tag, (k.frame s.payload b).payload⟩ (recordOf (k.frame s.payload b)) s) := by
  unfold onByte at h
  split at h
  · cases h
  · exact .inl ⟨Phase.ofCode_eq_some.mp ‹_›, by cases h; rfl⟩
  · exact .inr (.inl ⟨Phase.ofCode_eq_some.mp ‹_›, by cases h; rfl⟩)
  · exact .inr (.inr (.inl ⟨Phase.ofCode_eq_some.mp ‹_›, by cases h; rfl⟩))
  · unfold readPayload at h
    split at h
    · rename_i hc
      exact .inr (.inr (.inr (.inl ⟨Phase.ofCode_eq_some.mp ‹_›, hc.1, hc.2, by cases h; rfl⟩)))
    · cases h
  · have hs := Phase.ofCode_eq_some.mp ‹_›
    unfold readChecksum at h
    split at h
    · rename_i i hi
      obtain ⟨k, hk, hl, rfl⟩ := fetchedFrame_eq_some.mp hi
      rw [exec_eq_closeFrame] at h
      rcases closeFrame_cases ⟨(k.frame s.payload b).kind.tag, (k.frame s.payload b).payload⟩
        (recordOf (k.frame s.payload b)) (k.frame s.payload b).ck s with ⟨hc, he⟩ | ⟨hc, he⟩
      · rw [he] at h
        cases h
        exact .inr (.inr (.inr (.inr (.inr ⟨hs, by simpa using hc, k, hk, hl, by simp⟩))))
      · rw [he] at h
        cases h
        exact .inr (.inr (.inr (.inr (.inl ⟨hs, by simpa using hc, rfl⟩))))
    · unfold checksumMatch at h
      split at h
      · cases h
      · rename_i hc
        cases h
        exact .inr (.inr (.inr (.inr (.inl ⟨hs, by simpa using hc, rfl⟩))))
  · cases h

/-- What the end of the stream can do. -/
theorem onEnd_next {c : TermCause} {s t : State} (h : onEnd c s = .next t) :
    s.state ≠ Phase.code .done ∧
      ((s.state = Phase.code .pay ∧ t = raiseMalformedEnd c s) ∨
        (s.state ≠ Phase.code .pay ∧ t = raiseTerminated c s)) := by
  unfold onEnd at h
  split at h
  · cases h
  · have hs := Phase.ofCode_eq_some.mp ‹_›
    refine ⟨by rw [hs]; decide, .inl ⟨hs, ?_⟩⟩
    cases h
    simp [shortPayload, Config.malformedOnEmptyEos]
  · cases h
  all_goals
    have hs := Phase.ofCode_eq_some.mp ‹_›
    refine ⟨by rw [hs]; decide, .inr ⟨by rw [hs]; decide, ?_⟩⟩
    cases h
    rfl

/-- A transaction that answers a next state read a byte or an end in a legal state. -/
theorem transact_next {sym : Symbol} {s t : State} (h : transact sym s = .next t) :
    s.Legal ∧ ((∃ b, sym = .byte b ∧ onByte b s = .next t) ∨
      (sym = .endOfStream ∧ onEnd .streamEnd s = .next t) ∨
      (sym = .readError ∧ onEnd .streamError s = .next t)) := by
  unfold transact at h
  split at h
  · cases h
  · refine ⟨State.illegal_eq_none.mp ‹_›, ?_⟩
    split at h
    · exact .inl ⟨_, rfl, h⟩
    · exact .inr (.inl ⟨rfl, h⟩)
    · exact .inr (.inr ⟨rfl, h⟩)

@[simp] theorem PortIn.offer_symbol (sym : Symbol) : (PortIn.offer sym).symbol = sym := by
  cases sym <;> rfl

/-- What a cycle can do: reset, one transaction on the symbol taken, or wait. -/
theorem cycleTaking_next {sym : Symbol} {p : PortIn} {s t : State} (h : cycleTaking sym p s = .next t) :
    (p.rst = true ∧ t = resetBlock s) ∨
    (p.rst = false ∧ inTransfer p s = true ∧ transact sym (handOver p s) = .next t) ∨
    (p.rst = false ∧ inTransfer p s = false ∧ s.Legal ∧ t = handOver p s) := by
  unfold cycleTaking at h
  split at h
  · cases h
    exact .inl ⟨‹_›, rfl⟩
  · rename_i hr
    split at h
    · exact .inr (.inl ⟨by simpa using hr, ‹_›, h⟩)
    · rename_i hi
      split at h
      · cases h
      · cases h
        exact .inr (.inr ⟨by simpa using hr, by simpa using hi, State.illegal_eq_none.mp ‹_›, rfl⟩)

/-- With a ready consumer the output register is handed over. -/
theorem handOver_ready {p : PortIn} (h : p.foReady = true) (s : State) :
    handOver p s = { s with fo := none, evValid := false } := by
  cases hf : s.fo <;> simp [handOver, foTransfer, h, hf]

/-- A step of a running parse that has a symbol to read is its transaction. -/
theorem step_reads {s : State} {sym : Symbol} {rest : List Symbol} (hi : s.input = sym :: rest)
    (hd : s.done = false) :
    step s = transact sym { s with input := rest, fo := none, evValid := false } := by
  have hr : ∀ u : State, u.done = false → inReady (PortIn.offer sym) u = true := by
    intro u hu
    simp [inReady, hu, PortIn.offer]
  have ht : inTransfer (PortIn.offer sym) { s with input := rest } = true := by
    unfold inTransfer
    rw [hr { s with input := rest } hd]
    rfl
  unfold step readStream
  simp only [hi, hr s hd, if_true]
  unfold cycle cycleTaking
  rw [if_neg (by simp [PortIn.offer]), if_pos ht, PortIn.offer_symbol, handOver_ready rfl]

/-- A step without a symbol to read, or after the end of the parse, waits: only the port registers move. -/
theorem step_waits {s : State} (h : s.input = [] ∨ s.done = true) (hl : s.Legal) :
    step s = .next { s with fo := none, evValid := false } := by
  have hl' := State.illegal_eq_none.mpr hl
  unfold step readStream
  split
  · unfold cycle cycleTaking
    rw [if_neg (by simp [PortIn.idle]), if_neg (by simp [inTransfer, PortIn.idle]), hl', handOver_ready rfl]
  · rename_i sym rest he
    have hd : s.done = true := by simpa [he] using h
    have hr : inReady (PortIn.offer sym) s = false := by simp [inReady, hd]
    rw [hr, if_neg (by simp)]
    unfold cycle cycleTaking
    rw [if_neg (by simp [PortIn.offer]), if_neg (by simp [inTransfer, hr]), hl', handOver_ready rfl]

/-- What a step can do: read the next symbol, or wait with every register but the ports' unchanged. -/
theorem step_next {s t : State} (h : step s = .next t) :
    (∃ sym rest, s.input = sym :: rest ∧ s.done = false ∧
      transact sym { s with input := rest, fo := none, evValid := false } = .next t) ∨
    ((s.input = [] ∨ s.done = true) ∧ s.Legal ∧ t = { s with fo := none, evValid := false }) := by
  cases hd : s.done with
  | false =>
    cases hi : s.input with
    | cons sym rest => exact .inl ⟨sym, rest, rfl, rfl, by rw [← step_reads hi hd, h]⟩
    | nil =>
      have hl : s.Legal := by
        unfold step readStream at h
        rw [hi] at h
        rcases cycleTaking_next h with ⟨hr, _⟩ | ⟨_, ht, _⟩ | ⟨_, _, hl, _⟩
        · cases hr
        · simp [inTransfer, PortIn.idle] at ht
        · exact hl
      rw [step_waits (.inl hi) hl] at h
      cases h
      exact .inr ⟨.inl rfl, hl, by rw [hi]⟩
  | true =>
    have hl : s.Legal := by
      rw [← State.illegal_eq_none]
      cases hc : s.illegal with
      | none => rfl
      | some r =>
        unfold step readStream at h
        split at h <;> simp [cycle, cycleTaking, inTransfer, inReady, hd, hc, PortIn.idle, PortIn.offer] at h
    rw [step_waits (.inr hd) hl] at h
    cases h
    exact .inr ⟨.inr rfl, hl, rfl⟩

end Sys2Proof.Machine
end

