-- ==== Sys2Proof/Laws/PerInstr.lean ====
section
/-! SUPPORT. Laws of a frame as syntax, one lemma per constructor. -/

namespace Sys2Proof.Laws.PayloadLength

/-- The payload a frame spells has the length of its kind, and the frame's tag selects that kind
(30_encoding.md R79, R84). -/
def Statement (i : Instr) : Prop := i.payload.length = i.kind.len ∧ kindOf i.kind.tag = some i.kind

theorem gps (lat lon : Word) (gs : Byte) (alt : Word) (fix : BitVec 2) (sats : BitVec 6) (ck : Byte) :
    Statement (.gps lat lon gs alt fix sats ck) := ⟨rfl, kindOf_tag _⟩

theorem altitude (pitch roll heading : Half) (ck : Byte) : Statement (.altitude pitch roll heading ck) :=
  ⟨rfl, kindOf_tag _⟩

theorem status (vbat consumed : Half) (rssi airspeed statusRaw ck : Byte) :
    Statement (.status vbat consumed rssi airspeed statusRaw ck) := ⟨rfl, kindOf_tag _⟩

theorem origin (lat lon alt : Word) (osdOn : BitVec 1) (unused : BitVec 7) (fix ck : Byte) :
    Statement (.origin lat lon alt osdOn unused fix ck) := ⟨rfl, kindOf_tag _⟩

theorem navigation (gm nm na wp ne flags ck : Byte) : Statement (.navigation gm nm na wp ne flags ck) :=
  ⟨rfl, kindOf_tag _⟩

theorem gpsExtended (hdop : Half) (hw ctr dr unused ck : Byte) :
    Statement (.gpsExtended hdop hw ctr dr unused ck) := ⟨rfl, kindOf_tag _⟩

theorem tuning (ck : Byte) : Statement (.tuning ck) := ⟨rfl, kindOf_tag _⟩

end Sys2Proof.Laws.PayloadLength
end

