-- ==== Sys2Proof/Laws/Ports.lean ====
section
/-! SUPPORT. What a cycle of a block with its producer can do, and what a stable producer forces. -/

namespace Sys2Proof.Machine

open Host (Outcome)

/-- A cycle of a block with its producer: the symbol taken is admitted, the block runs the cycle, and the wait
goes on or ends. -/
theorem Link.next_eq_some {l m : Link} {c : PortCycle} :
    l.next c = some m ↔ l.Admits c ∧ cycleTaking c.taken c.signals l.block = .next m.block ∧
      m.offered = stillOffered l.offered c.signals l.block := by
  unfold Link.next
  split
  · rename_i ha
    cases hc : cycleTaking c.taken c.signals l.block <;> simp [ha]
    cases m
    simp [eq_comm]
  · simp_all

/-- The symbol an input port shows is a function of `in_data`, `in_eos` and `in_err`. -/
theorem PortIn.symbol_congr {p q : PortIn} (h : p.inData = q.inData ∧ p.inEos = q.inEos ∧ p.inErr = q.inErr) :
    p.symbol = q.symbol := by
  unfold PortIn.symbol
  rw [h.1, h.2.1, h.2.2]

/-- With a stable producer every symbol offered in a wait is the one offered now. -/
theorem StableProducer.offered_eq {env : Nat → PortCycle} {s : State} (h : StableProducer env s) :
    ∀ (n : Nat) (l : Link), portRun env s n = some l → (env n).signals.inValid = true →
      ∀ sym ∈ l.offered, sym = (env n).signals.symbol := by
  intro n
  induction n with
  | zero => rintro l hl - sym hs; cases hl; cases hs
  | succ n ih =>
    intro m hm hv sym hs
    rw [portRun] at hm
    split at hm
    · cases hm
    · rename_i l hl
      rw [(Link.next_eq_some.mp hm).2.2] at hs
      unfold stillOffered at hs
      split at hs
      · rename_i hw
        simp only [Bool.and_eq_true, Bool.not_eq_true'] at hw
        rw [PortIn.symbol_congr (h n ⟨l, hl, hw.1, hw.2⟩ hv)]
        rcases List.mem_cons.mp hs with rfl | hs
        · rfl
        · exact ih l hl hw.1 sym hs
      · cases hs

/-- With a stable producer the symbol taken is the one offered (70_reset_and_hazards.md R244, 10_state.md R41). -/
theorem StableProducer.taken_eq {env : Nat → PortCycle} {s : State} (h : StableProducer env s) {n : Nat} {l : Link}
    (hl : portRun env s n = some l) (ha : l.Admits (env n)) (hv : (env n).signals.inValid = true) :
    (env n).taken = (env n).signals.symbol := by
  rcases List.mem_cons.mp ha with ht | ht
  · exact ht
  · exact h.offered_eq n l hl hv _ ht

end Sys2Proof.Machine
end

