-- ==== Sys2Proof/Tests/Slice0.lean ====
section
/-! SUPPORT. The model's own tests. Expected values come from 95_test_vectors.md (the vector is named) or are
worked out from the rule named. The `witness_` theorems meet the hypotheses of the obligations. -/

namespace Sys2Proof.Tests

open Sys2Proof Sys2Proof.Machine
open Host (Outcome)

/-- The reset state moved to a framing state. -/
def inState (c : BitVec 3) : State := { State.reset with state := c }

/-- A field of the next state. -/
def field {α : Type} (f : State → α) (o : Outcome State Fault Refusal) : Option α :=
  match o with
  | .next s => some (f s)
  | .fault _ => none
  | .refused _ => none

/-- The integers of the record of a tag and payload. -/
def integersFor (tag : Byte) (p : List Byte) : Option (List (FieldName × Int)) :=
  (decodeRecord tag p).map FrameRecord.integers

/-! ### Well-formedness -/

theorem test_wellFormed_accepts_right_checksum :
    (Instr.altitude 0xFE3E#16 0x04B0#16 0x0167#16 0x12#8).wellFormed = true := by decide

theorem test_wellFormed_refuses_wrong_checksum :
    (Instr.altitude 0xFE3E#16 0x04B0#16 0x0167#16 0x13#8).wellFormed = false := by decide

theorem test_wellFormed_refuses_tuning_with_checksum_one : (Instr.tuning 0x01#8).wellFormed = false := by decide

/-! ### Words decode to the frames they stand for (programs P3, P5) -/

theorem test_decode_gps :
    decode [0x24, 0x54, 0x47, 0x80, 0x4A, 0x33, 0x1C, 0x79, 0x29, 0xED, 0xFF, 0xF6, 0x39, 0x30, 0x00, 0x00, 0x1F, 0x47] =
      .ok (.gps 0x1C334A80#32 0xFFED2979#32 0xF6#8 0x00003039#32 3#2 7#6 0x47#8, []) := by rfl

theorem test_decode_altitude :
    decode [0x24, 0x54, 0x41, 0x3E, 0xFE, 0xB0, 0x04, 0x67, 0x01, 0x12] =
      .ok (.altitude 0xFE3E#16 0x04B0#16 0x0167#16 0x12#8, []) := by rfl

theorem test_decode_status :
    decode [0x24, 0x54, 0x53, 0xD8, 0x2E, 0x58, 0x02, 0x5A, 0x14, 0x05, 0xE7] =
      .ok (.status 11992#16 600#16 90#8 20#8 0x05#8 0xE7#8, []) := by rfl

theorem test_decode_origin :
    decode [0x24, 0x54, 0x4F, 0x80, 0x4A, 0x33, 0x1C, 0x24, 0x97, 0x17, 0x05, 0x88, 0x13, 0x00, 0x00, 0x03, 0x02, 0xDE] =
      .ok (.origin 473123456#32 85432100#32 5000#32 1#1 1#7 2#8 0xDE#8, []) := by rfl

theorem test_decode_navigation :
    decode [0x24, 0x54, 0x4E, 0x01, 0x03, 0x02, 0xFF, 0x00, 0x80, 0x7F] =
      .ok (.navigation 0x01#8 0x03#8 0x02#8 0xFF#8 0x00#8 0x80#8 0x7F#8, []) := by rfl

theorem test_decode_gpsExtended :
    decode [0x24, 0x54, 0x58, 0x96, 0x00, 0x00, 0x2A, 0x01, 0xAA, 0x17] =
      .ok (.gpsExtended 150#16 0x00#8 42#8 0x01#8 0xAA#8 0x17#8, []) := by rfl

theorem test_decode_tuning : decode [0x24, 0x54, 0x54, 0x00, 0x99] = .ok (.tuning 0x00#8, [0x99#8]) := by rfl

theorem test_decode_unknown_tag : decode [0x24, 0x54, 0x5A] = .error .unknownTag := by rfl

/-! ### Records -/

/-- V-DEC-1. -/
theorem test_gps_integers :
    integersFor 0x47#8 [0x80, 0x4A, 0x33, 0x1C, 0x79, 0x29, 0xED, 0xFF, 0xF6, 0x39, 0x30, 0x00, 0x00, 0x1F] =
      some [(.lat, 473123456), (.lon, -1234567), (.groundSpeed, -10), (.alt, 12345), (.gpsFix, 3), (.sats, 7)] := by
  decide

/-- V-DEC-6. -/
theorem test_altitude_integers :
    integersFor 0x41#8 [0xFF, 0xFF, 0xFF, 0x7F, 0x00, 0x80] =
      some [(.pitch, -1), (.roll, 32767), (.heading, -32768)] := by decide

/-- V-DEC-7 with the voltage of V-DEC-12. -/
theorem test_status_integers :
    integersFor 0x53#8 [0xFF, 0xFF, 0x58, 0x02, 0x5A, 0x14, 0x05] =
      some [(.vbat, 65535), (.consumed, 600), (.rssi, 90), (.airspeed, 20), (.statusRaw, 5), (.flightStatus, 1)] := by
  decide

/-- V-DEC-13 with bytes 12 and 13 of V-DEC-14. -/
theorem test_origin_integers :
    integersFor 0x4F#8 [0x80, 0x4A, 0x33, 0x1C, 0x24, 0x97, 0x17, 0x05, 0x88, 0x13, 0x00, 0x00, 0xFE, 0xFF] =
      some [(.lat, 473123456), (.lon, 85432100), (.alt, 5000), (.osdOn, 0), (.originFix, 255)] := by decide

/-- V-DEC-15. -/
theorem test_navigation_integers :
    integersFor 0x4E#8 [0x01, 0x03, 0x02, 0xFF, 0x00, 0x80] =
      some [(.gpsMode, 1), (.navMode, 3), (.navAction, 2), (.waypoint, -1), (.navError, 0), (.flags, 128)] := by decide

/-- V-DEC-17. -/
theorem test_gpsExtended_integers :
    integersFor 0x58#8 [0x96, 0x00, 0x00, 0x2A, 0x01, 0xAA] =
      some [(.hdop, 150), (.hwStatus, 0), (.ltmxCounter, 42), (.disarmReason, 1)] := by decide

/-- V-DEC-18. -/
theorem test_tuning_integers : integersFor 0x54#8 [] = some [] := by decide

/-- V-DEC-8 and V-DEC-9. -/
theorem test_status_flags :
    (armedFlag .preserveLast 0x01#8 = false ∧ armedFlag .preserveOr 0x01#8 = true ∧ armedFlag .corrected 0x01#8 = true) ∧
    (armedFlag .preserveLast 0x02#8 = true ∧ armedFlag .preserveOr 0x02#8 = true ∧ armedFlag .corrected 0x02#8 = false) ∧
    (failsafeFlag .preserveLast 0x02#8 = false ∧ failsafeFlag .preserveOr 0x02#8 = false ∧
      failsafeFlag .corrected 0x02#8 = true) := by decide

/-- V-DEC-10 and V-DEC-11, in every flag mode. -/
theorem test_flight_status_bound (mode : Config.StatusFlagMode) :
    (statusRecordIn mode 0 0 0 0 0x54#8).flightStatusKnown = true ∧
    (statusRecordIn mode 0 0 0 0 0x58#8).flightStatusKnown = false := by
  cases mode <;> decide

/-- E1, E2, E3. -/
theorem test_fixed_point :
    FieldName.value .lat 473123456 = 473123456 / 10000000 ∧ FieldName.value .alt 12345 = 12345 / 100 ∧
    FieldName.value .vbat 11800 = 118 / 10 := by
  norm_num [FieldName.value, FieldName.divisor]

/-! ### Checksum (V-CK-1, V-CK-2, V-CK-3, V-CK-5) -/

theorem test_checksum :
    checksum [0xD8, 0x2E, 0x58, 0x02, 0x5A, 0x14, 0x05] = 0xE7#8 ∧ checksum [] = 0x00#8 ∧
    checksum [0x55, 0x55, 0x00, 0x00, 0x00, 0x00] = 0x00#8 ∧
    checksum [0xB0, 0xFE, 0x3E, 0x04, 0x67, 0x01] = 0x12#8 := by decide

/-! ### The framing state machine -/

/-- V-FSM-1 and V-FSM-4. -/
theorem test_sentinel_and_header :
    field State.state (transact (.byte 0x24#8) (inState 0#3)) = some 1#3 ∧
    field State.state (transact (.byte 0x24#8) (inState 1#3)) = some 0#3 := by decide

/-- V-FSM-5. -/
theorem test_origin_tag :
    field (fun s => (s.state, s.tag, s.len, s.idx)) (transact (.byte 0x4F#8) (inState 2#3)) =
      some (3#3, 0x4F#8, 14#4, 0#4) := by decide

/-- V-FSM-7. -/
theorem test_sentinel_as_tag :
    field (fun s => (s.state, s.cntUnknown, s.evCode)) (transact (.byte 0x24#8) (inState 2#3)) =
      some (0#3, 1#32, 2#3) := by decide

/-- V-FSM-8. -/
theorem test_tuning_tag :
    field (fun s => (s.state, s.tag, s.len)) (transact (.byte 0x54#8) (inState 2#3)) = some (4#3, 0x54#8, 0#4) := by
  decide

/-- V-FSM-10. -/
theorem test_last_payload_byte :
    field (fun s => (s.state, s.buf[6], s.acc, s.idx))
      (transact (.byte 0x05#8) { inState 3#3 with len := 7#4, idx := 6#4, acc := 0xE2#8 }) =
      some (4#3, 0x05#8, 0xE7#8, 7#4) := by decide

/-- V-FSM-12. -/
theorem test_short_payload :
    field (fun s => (s.state, s.cntMalformed, s.termCause, s.evCode))
      (transact .endOfStream { inState 3#3 with len := 14#4, idx := 5#4 }) = some (5#3, 1#32, 1#2, 4#3) := by decide

/-- V-FSM-13, for both values of `MALFORMED_ON_EMPTY_EOS`. -/
theorem test_empty_payload :
    (shortPayload true .streamEnd { inState 3#3 with len := 6#4 }).cntMalformed = 1#32 ∧
    (shortPayload false .streamEnd { inState 3#3 with len := 6#4 }).cntMalformed = 0#32 ∧
    (shortPayload false .streamEnd { inState 3#3 with len := 6#4 }).evCode = 5#3 := by decide

/-- V-FSM-16. -/
theorem test_wrong_checksum :
    field (fun s => (s.state, s.cntCksum, s.evCode, s.frames))
      (transact (.byte 0xE6#8) { inState 4#3 with acc := 0xE7#8 }) = some (0#3, 1#32, 3#3, []) := by decide

/-- V-FSM-17. -/
theorem test_tuning_frame :
    field (fun s => (s.state, s.frames)) (transact (.byte 0x00#8) { inState 4#3 with tag := 0x54#8 }) =
      some (0#3, [⟨0x54#8, []⟩]) := by decide

/-- V-FSM-20. -/
theorem test_read_error :
    field (fun s => (s.state, s.termCause)) (transact .readError (inState 1#3)) = some (5#3, 2#2) := by decide

/-- V-FSM-22. -/
theorem test_frame_lost_at_end :
    field (fun s => (s.state, s.frames, s.cntMalformed, s.cntCksum)) (transact .endOfStream (inState 4#3)) =
      some (5#3, [], 0#32, 0#32) := by decide

/-- V-EV-1. -/
theorem test_counter_wraps :
    field State.cntUnknown (transact (.byte 0x5A#8) { inState 2#3 with cntUnknown := 0xFFFFFFFF#32 }) = some 0#32 := by
  decide

/-! ### The host's entry points -/

theorem test_table_word_gps :
    decodeTableWord 8 0x47 = some (.gps 0#32 0#32 0#8 0#32 0#2 0#6 0#8) ∧
    field State.frames (step (State.reset.withFetchWord 8 0x47)) =
      some [⟨0x47#8, [0, 0, 0, 0, 0, 0, 0, 0, 0, 0, 0, 0, 0, 0]⟩] := by decide

/-- The payload bytes lie above the tag: byte 0 is 0x40, the checksum byte 0 does not match it (R107). -/
theorem test_table_word_origin :
    decodeTableWord 16 0x404F = some (.origin 0x40#32 0#32 0#32 0#1 0#7 0#8 0#8) ∧
    field State.cntCksum (step (State.reset.withFetchWord 16 0x404F)) = some 1#32 := by decide

theorem test_table_word_tuning :
    decodeTableWord 8 0x54 = some (.tuning 0#8) ∧
    field State.frames (step (State.reset.withFetchWord 8 0x54)) = some [⟨0x54#8, []⟩] := by decide

theorem test_table_word_unknown :
    decodeTableWord 8 0x5A = none ∧
    field State.cntUnknown (step (State.reset.withFetchWord 8 0x5A)) = some 1#32 := by decide

/-! ### The ports -/

/-- A held Tuning frame. -/
def holding : State := { inState 0#3 with frames := [⟨0x54#8, []⟩], fo := some ⟨⟨0x54#8, []⟩, .tuning⟩ }

/-- R42, R47: a held frame and a consumer that is not ready stall the input. -/
theorem test_stall :
    inReady { PortIn.offer (.byte 0x24#8) with foReady := false } holding = false ∧
    field State.state (cycle { PortIn.offer (.byte 0x24#8) with foReady := false } holding) = some 0#3 ∧
    field (fun s => (s.state, s.fo)) (cycle (PortIn.offer (.byte 0x24#8)) holding) = some (1#3, none) := by decide

/-- V-RST-1. -/
theorem test_reset_drops_held_frame :
    field (fun s => (s.state, s.cntUnknown, s.fo)) (cycle { PortIn.idle with rst := true, foReady := false }
      { holding with cntUnknown := 5#32 }) = some (0#3, 0#32, none) := by decide

/-- R41: `in_err` wins over `in_eos`. -/
theorem test_error_wins : ({ PortIn.offer .endOfStream with inErr := true } : PortIn).symbol = .readError := by decide

/-- R43: payload byte `i` on bits `8i+7 : 8i`. -/
theorem test_payload_bus : payloadBus [0x11, 0x22, 0x33] = 0x332211#112 := by decide

/-! ### Witnesses -/

/-- A Status frame collected up to its checksum byte (V-FSM-15). -/
def statusReady : State :=
  stageFrame .status [0xD8, 0x2E, 0x58, 0x02, 0x5A, 0x14, 0x05] State.reset

theorem witness_RegistryOfSevenTags : known 0x47#8 = true ∧ known 0x5A#8 = false := by decide

theorem witness_EncodeOfDecode : ∃ i rest, decode [0x24, 0x54, 0x54, 0x00] = .ok (i, rest) := ⟨_, _, rfl⟩

theorem witness_WireLayout : (Instr.tuning 0x00#8).wellFormed = true := by decide

theorem witness_decoders :
    (∃ r, decodeRecord 0x47#8 (List.replicate 14 0) = some r) ∧ (∃ r, decodeRecord 0x41#8 (List.replicate 6 0) = some r) ∧
    (∃ r, decodeRecord 0x53#8 (List.replicate 7 0) = some r) ∧ (∃ r, decodeRecord 0x4F#8 (List.replicate 14 0) = some r) ∧
    (∃ r, decodeRecord 0x4E#8 (List.replicate 6 0) = some r) ∧ (∃ r, decodeRecord 0x58#8 (List.replicate 6 0) = some r) :=
  ⟨⟨_, rfl⟩, ⟨_, rfl⟩, ⟨_, rfl⟩, ⟨_, rfl⟩, ⟨_, rfl⟩, ⟨_, rfl⟩⟩

theorem witness_RecordFollowsLayout : ∃ r, decodeRecord (FrameKind.tag .gps) (List.replicate 14 0) = some r := ⟨_, rfl⟩

theorem witness_FixedPointScales :
    FieldName.groundSpeed ∉ [FieldName.lat, .lon, .alt, .vbat, .consumed, .hdop] := by decide

theorem witness_ChecksumIgnoresOrder : List.Perm [0x3E#8, 0xFE#8] [0xFE#8, 0x3E#8] := by decide

/-- The GPS frame of V-CK-4: payload byte 9 changed from 0x39 to 0x38 under the old checksum byte. -/
theorem witness_SingleBitFlipIsDropped :
    ∃ s : State, ∃ p : List Byte, s.Legal ∧ s.state = Phase.code .sent ∧ p.length = FrameKind.len .gps ∧
      9 < FrameKind.len .gps ∧ 0 < 8 ∧
      s.input = byteSymbols (badFrameBytes (FrameKind.tag .gps) (p.modify 9 (fun b => b ^^^ BitVec.twoPow 8 0))
        (checksum p)) ++ [] :=
  ⟨{ State.reset with input := byteSymbols (badFrameBytes 0x47#8
      [0x80, 0x4A, 0x33, 0x1C, 0x79, 0x29, 0xED, 0xFF, 0xF6, 0x38, 0x30, 0x00, 0x00, 0x1F] 0x47#8) },
    [0x80, 0x4A, 0x33, 0x1C, 0x79, 0x29, 0xED, 0xFF, 0xF6, 0x39, 0x30, 0x00, 0x00, 0x1F], by decide⟩

theorem witness_WrongChecksumByteIsCounted : (Instr.tuning 0x01#8).ck ≠ State.reset.acc := by decide

theorem witness_SentinelSearch : (inState 0#3).Legal ∧ (inState 0#3).state = 0#3 := by decide

theorem witness_HeaderTest : (inState 1#3).Legal ∧ (inState 1#3).state = 1#3 := by decide

theorem witness_TagWithPayloadAccepted :
    (inState 2#3).Legal ∧ (inState 2#3).state = 2#3 ∧ 0 < FrameKind.len .altitude ∧ 0 < FrameKind.len .gps := by decide

theorem witness_TuningTagAccepted : (inState 2#3).Legal ∧ (inState 2#3).state = 2#3 := by decide

theorem witness_UnknownTagCounted :
    (inState 2#3).Legal ∧ (inState 2#3).state = 2#3 ∧ known 0x5A#8 = false ∧ known 0x00#8 = false ∧
    known 0xFF#8 = false := by decide

/-- The last but one and the last byte of the longest payload. -/
theorem witness_PayloadByteStored :
    (∃ s : State, s.idx.toNat < 14 ∧ s.Legal ∧ s.state = 3#3 ∧ s.idx.toNat + 1 < s.len.toNat) ∧
    (∃ s : State, s.idx.toNat < 14 ∧ s.Legal ∧ s.state = 3#3 ∧ s.idx.toNat + 1 = s.len.toNat) :=
  ⟨⟨{ inState 3#3 with len := 14#4, idx := 12#4 }, by decide⟩, ⟨{ inState 3#3 with len := 14#4, idx := 13#4 }, by decide⟩⟩

theorem witness_MatchingChecksumEmits :
    statusReady.Legal ∧ statusReady.state = 4#3 ∧ statusReady.tag = FrameKind.tag .status ∧
    statusReady.len.toNat = FrameKind.len .status := by decide

theorem witness_WrongChecksumDrops :
    statusReady.Legal ∧ statusReady.state = 4#3 ∧ (0xE6#8 : Byte) ≠ statusReady.acc := by decide

theorem witness_StreamEndTerminates :
    (inState 0#3).Legal ∧ (inState 1#3).Legal ∧ (inState 2#3).Legal ∧ (inState 4#3).Legal := by decide

theorem witness_ShortPayloadCounted :
    (inState 3#3).Legal ∧ (inState 3#3).state = 3#3 ∧ (inState 3#3).idx = 0#4 ∧
    0 < ({ inState 3#3 with idx := 1#4 } : State).idx.toNat := by decide

theorem witness_UnusedCodesRefused :
    (inState 6#3).state = 6#3 ∧ (inState 7#3).state = 7#3 ∧ State.reset.state.toNat ≤ 5 ∧
    ({ State.reset with termCause := 3#2 } : State).termCause = 3#2 ∧ State.reset.termCause ≠ 3#2 ∧
    ({ State.reset with evCode := 6#3 } : State).evCode = 6#3 ∧
    ({ State.reset with evCode := 7#3 } : State).evCode = 7#3 := by decide

/-- `len` = 15, one above the range of 10_state.md R23, under the tag of the longest payload. -/
def overlong : State := { inState 4#3 with tag := 0x47#8, len := 15#4 }

theorem witness_UnusedCodesRefused_noRecord :
    overlong.Legal ∧ overlong.state = 4#3 ∧ ¬ ∃ k : FrameKind, overlong.tag = k.tag ∧ overlong.len.toNat = k.len := by
  refine ⟨by decide, rfl, ?_⟩
  rintro ⟨k, -, hl⟩
  cases k <;> exact absurd hl (by decide)

/-- Log entry 8: that state refuses a matching checksum byte and counts another. -/
theorem test_no_record :
    transact (.byte 0x00#8) overlong = .refused .noRecord ∧
    field State.cntCksum (transact (.byte 0x01#8) overlong) = some 1#32 := ⟨rfl, rfl⟩

theorem witness_DoneReadsNothing : (inState 5#3).Legal ∧ (inState 5#3).state = 5#3 := by decide

theorem witness_StepRunsDecodedFrame :
    ∃ (s : State) (b : Byte) (i : Instr), s.Legal ∧ s.state = 4#3 ∧ s.len.toNat ≤ 14 ∧ s.input = [.byte b] ∧
      frameOf s.tag (s.buf.toList.take s.len.toNat) b = some i :=
  ⟨{ statusReady with input := [.byte 0xE7#8] }, 0xE7#8, .status 11992#16 600#16 90#8 20#8 0x05#8 0xE7#8, by decide⟩

theorem witness_StepTakesOneSymbol :
    (State.reset.Legal ∧ State.reset.input = []) ∧
    ∃ (s : State) (sym : Symbol), s.Legal ∧ s.state ≠ 5#3 ∧ s.input = [sym] :=
  ⟨by decide, { State.reset with input := [.endOfStream] }, .endOfStream, by decide⟩

theorem witness_FrameBytesFetchThenRun :
    ∃ (i : Instr) (s : State), s.Legal ∧ s.state = 0#3 ∧ s.input = byteSymbols (encode i) ++ [.endOfStream] :=
  ⟨.altitude 0xFE3E#16 0x04B0#16 0x0167#16 0x12#8,
    { State.reset with input := byteSymbols (encode (.altitude 0xFE3E#16 0x04B0#16 0x0167#16 0x12#8)) ++ [.endOfStream] },
    by decide⟩

theorem witness_WellFormedFrameIsDelivered :
    ∃ (i : Instr) (s : State), s.Legal ∧ s.state = 0#3 ∧ i.wellFormed = true ∧
      s.input = byteSymbols (frameBytes i.kind.tag i.payload) ++ [] :=
  ⟨.tuning 0x00#8, { State.reset with input := byteSymbols [0x24, 0x54, 0x54, 0x00] }, by decide⟩

theorem witness_NoOverlappedSentinel :
    ∃ s : State, s.Legal ∧ s.state = 0#3 ∧ s.input = byteSymbols [0x24#8, 0x24#8, 0x54#8] ++ [.endOfStream] :=
  ⟨{ State.reset with input := byteSymbols [0x24#8, 0x24#8, 0x54#8] ++ [.endOfStream] }, by decide⟩

theorem reset_inv_witness : State.reset.Inv where
  legal := by decide
  cause := by decide
  collecting := by intro h; exact absurd h (by decide)
  complete := by intro h; exact absurd h (by decide)
  validated := by intro f hf; cases hf
  held := by intro h hf; cases hf
  strobe := by intro h; exact absurd h (by decide)

theorem witness_invariant_steps :
    State.reset.Inv ∧ (∃ t, step State.reset = .next t) ∧ (∃ t, cycle (PortIn.offer (.byte 0x24#8)) State.reset = .next t) ∧
    State.reset.done = false :=
  ⟨reset_inv_witness, ⟨_, rfl⟩, ⟨_, rfl⟩, by decide⟩

theorem witness_transactions :
    (∃ t, transact (.byte 0x5A#8) (inState 2#3) = .next t) ∧ (∃ t, transact (.byte 0x4F#8) (inState 2#3) = .next t) ∧
    (∃ t, transact (.byte 0x07#8) { inState 3#3 with len := 14#4, idx := 13#4 } = .next t) ∧
    (∃ t, transact (.byte 0xE7#8) statusReady = .next t) ∧ (∃ t, transact (.byte 0xE6#8) statusReady = .next t) ∧
    (∃ t, transact .readError (inState 3#3) = .next t) :=
  ⟨⟨_, rfl⟩, ⟨_, rfl⟩, ⟨_, rfl⟩, ⟨_, rfl⟩, ⟨_, rfl⟩, ⟨_, rfl⟩⟩

theorem witness_CountersWrap :
    ∃ s : State, s.Legal ∧ s.state = 2#3 ∧ known 0x5A#8 = false ∧ s.cntUnknown = BitVec.allOnes 32 :=
  ⟨{ inState 2#3 with cntUnknown := 0xFFFFFFFF#32 }, by decide⟩

theorem witness_StaleRegistersAreInvisible :
    ∃ s t : State, s.visible = t.visible ∧ s ≠ t ∧ s.state ≠ 3#3 ∧ s.state ≠ 4#3 :=
  ⟨State.reset, { State.reset with acc := 0x5A#8, idx := 3#4, tag := 0x47#8 }, by decide⟩

theorem witness_InputPort :
    ({ PortIn.idle with inErr := true } : PortIn).inErr = true ∧
    (PortIn.offer .endOfStream).inErr = false ∧ (PortIn.offer .endOfStream).inEos = true ∧
    (PortIn.offer (.byte 0x24#8)).inErr = false ∧ (PortIn.offer (.byte 0x24#8)).inEos = false ∧
    (PortIn.offer (.byte 0x24#8)).inValid = true ∧ inReady (PortIn.offer (.byte 0x24#8)) State.reset = true ∧
    PortIn.idle.rst = false ∧ State.reset.Legal ∧ PortIn.idle.inValid = false := by decide

theorem witness_ResetHasPriority : ({ PortIn.offer (.byte 0x24#8) with rst := true } : PortIn).rst = true := by decide

theorem witness_EventStrobe :
    (∃ t, cycle (PortIn.offer (.byte 0x5A#8)) (inState 2#3) = .next t) ∧
    (∃ t, cycle PortIn.idle (inState 2#3) = .next t) ∧ inTransfer PortIn.idle (inState 2#3) = false :=
  ⟨⟨_, rfl⟩, ⟨_, rfl⟩, by decide⟩

theorem witness_OutputPorts :
    State.reset.fo = none ∧ holding.fo = some ⟨⟨0x54#8, []⟩, .tuning⟩ ∧ holding.Inv ∧ 0 < 14 ∧ 13 < 14 :=
  ⟨rfl, rfl,
    { legal := by decide
      cause := by decide
      collecting := fun h => absurd h (by decide)
      complete := fun h => absurd h (by decide)
      validated := fun f hf => by
        rcases List.mem_singleton.mp hf with rfl
        exact ⟨.tuning, rfl, rfl⟩
      held := fun h hf => by cases hf; exact ⟨rfl, rfl⟩
      strobe := fun h => absurd h (by decide) }, by decide, by decide⟩

/-- A stalled cycle, then the frame and a byte transferred together. -/
theorem witness_PortsRefineTransactions :
    ∃ (cs : List PortCycle) (tr : CycleTrace), (∀ c ∈ cs, c.signals.rst = false) ∧
      runCycles cs ⟨holding, []⟩ = some tr :=
  ⟨[.offered { PortIn.offer (.byte 0x24#8) with foReady := false }, .offered (PortIn.offer (.byte 0x24#8))], _,
    by decide, rfl⟩

/-- I16: a producer that changes its offer from 0x24 to 0x54 in a stall may have either taken, and nothing else. -/
theorem test_unstable_offer :
    let stalled : PortCycle := .offered { PortIn.offer (.byte 0x24#8) with foReady := false }
    let taken (b : Byte) : PortCycle := ⟨PortIn.offer (.byte 0x54#8), .byte b⟩
    let after (b : Byte) := (runCycles [stalled, taken b] ⟨holding, []⟩).map fun tr => tr.final.state
    after 0x24#8 = some 1#3 ∧ after 0x54#8 = some 0#3 ∧ after 0x41#8 = none := by decide

/-- A producer that holds the end of the stream, and a consumer that is always ready. -/
theorem witness_FairParseEnds :
    ∃ (env : Nat → PortCycle) (s : State), s.Inv ∧ (∀ n, (env n).signals.rst = false) ∧ AdmittedRun env s ∧
      FairConsumer env ∧ StableProducer env s ∧ OfferKept env s ∧ EndOffered env :=
  ⟨fun _ => .offered (PortIn.offer .endOfStream), State.reset, reset_inv_witness, fun _ => rfl,
    fun _ _ _ => List.mem_cons_self, fun n => ⟨n, le_refl n, rfl⟩, fun _ _ _ => ⟨rfl, rfl, rfl⟩, fun _ _ => rfl,
    ⟨0, rfl, rfl⟩⟩

end Sys2Proof.Tests
end

section
/-! SUPPORT. The ports (10_state.md section 6): what the output port shows of a held frame, and that every
transaction leaves the event port the code and the strobe of one event. -/

namespace Sys2Proof.Machine

/-! ### The payload bus -/

theorem payloadBus_cons (b : Byte) (p : List Byte) :
    payloadBus (b :: p) = (payloadBus p <<< 8) ||| b.setWidth (8 * Config.maxLen) := rfl

/-- The first payload byte is on the lowest bits of the bus. -/
theorem payloadBus_cons_low (b : Byte) (p : List Byte) : (payloadBus (b :: p)).extractLsb' 0 8 = b := by
  apply BitVec.eq_of_getLsbD_eq
  intro j hj
  simp [payloadBus_cons, Config.maxLen, hj, show j < 112 by omega]

/-- A byte in front moves every byte that stays on the bus up one place. -/
theorem payloadBus_cons_high (b : Byte) (p : List Byte) {i : Nat} (hi : i + 1 < 14) :
    (payloadBus (b :: p)).extractLsb' (8 * (i + 1)) 8 = (payloadBus p).extractLsb' (8 * i) 8 := by
  apply BitVec.eq_of_getLsbD_eq
  intro j hj
  have hback : 8 * (i + 1) + j - 8 = 8 * i + j := by omega
  have hwidth : 8 * (i + 1) + j < 112 := by omega
  have hlow : 8 * i + j < 112 := by omega
  have hnext : ¬ 8 * (i + 1) + j < 8 := by omega
  have habove : b.getLsbD (8 * (i + 1) + j) = false := BitVec.getLsbD_of_ge _ _ (by omega)
  simp [payloadBus_cons, Config.maxLen, hj, hback, hwidth, hnext, habove, BitVec.getLsbD_eq_getElem hlow]

/-- R43: payload byte `i` is on bits `8i+7 : 8i` of the bus, 0 at the length and above. -/
theorem payloadBus_byte (p : List Byte) {i : Nat} (hi : i < 14) :
    (payloadBus p).extractLsb' (8 * i) 8 = p.getD i 0x00#8 := by
  induction p generalizing i with
  | nil => simp [payloadBus]
  | cons b p ih =>
    cases i with
    | zero => exact payloadBus_cons_low b p
    | succ i => rw [payloadBus_cons_high b p hi, ih (by omega), List.getD_cons_succ]

/-! ### The frame port -/

/-- `Decode` answers a record only for the tag of a kind and a payload of its length (R130). -/
theorem decodeRecord_shape {tag : Byte} {p : List Byte} {r : FrameRecord} (h : decodeRecord tag p = some r) :
    ∃ k, tag = FrameKind.tag k ∧ p.length = k.len := by
  obtain ⟨i, hi, -⟩ := Option.map_eq_some_iff.mp h
  obtain ⟨k, ht, hp, -⟩ := frameOf_eq_some.mp hi
  exact ⟨k, ht, hp⟩

/-- Under the invariant the frame port shows a known tag and its length, with the decoded record. -/
theorem State.Inv.held_signals {s : State} {h : HeldFrame} (hi : s.Inv) (hf : s.fo = some h) :
    ∃ k : FrameKind, h.signals.foTag = k.tag ∧ h.signals.foLen.toNat = k.len ∧
      decodeRecord h.signals.foTag h.frame.payload = some h.record := by
  obtain ⟨-, hr⟩ := hi.held h hf
  obtain ⟨k, ht, hp⟩ := decodeRecord_shape hr
  exact ⟨k, ht, by simp only [HeldFrame.signals, hp, FrameKind.len_toNat], hr⟩

/-! ### The input port -/

theorem inReady_iff {p : PortIn} {s : State} :
    inReady p s = true ↔ p.rst = false ∧ s.state ≠ Phase.code .done ∧ (s.fo = none ∨ p.foReady = true) := by
  simp [inReady, State.done, and_assoc]

theorem inTransfer_iff {p : PortIn} {s : State} :
    inTransfer p s = true ↔ p.inValid = true ∧ inReady p s = true := by
  simp [inTransfer]

theorem inTransfer_eq_false_iff {p : PortIn} {s : State} :
    inTransfer p s = false ↔ p.inValid = false ∨ inReady p s = false :=
  Bool.and_eq_false_iff

/-- No symbol is transferred in a cycle with `rst`. -/
theorem inTransfer_of_rst {p : PortIn} (h : p.rst = true) (s : State) : inTransfer p s = false := by
  simp [inTransfer, inReady, h]

/-- A transfer is one transaction on the symbol taken (R41). -/
theorem cycleTaking_of_inTransfer {p : PortIn} {s : State} (h : inTransfer p s = true) (sym : Symbol) :
    cycleTaking sym p s = transact sym (handOver p s) := by
  have hr : p.rst = false := (inReady_iff.mp (inTransfer_iff.mp h).2).1
  simp [cycleTaking, hr, h]

/-- Without a transfer the block waits, whatever symbol is named. -/
theorem cycleTaking_of_no_inTransfer {p : PortIn} {s : State} (hr : p.rst = false) (ht : inTransfer p s = false)
    (hl : s.Legal) (sym : Symbol) : cycleTaking sym p s = .next (handOver p s) := by
  simp [cycleTaking, hr, ht, State.illegal_eq_none.mpr hl]

/-! ### The event port -/

@[simp] theorem outputs_evValid (p : PortIn) (s : State) : (outputs p s).evValid = s.evValid := rfl
@[simp] theorem outputs_evCode (p : PortIn) (s : State) : (outputs p s).evCode = s.evCode := rfl

/-- Raising an event strobes exactly if its code is not that of `EV_NONE` (R45). -/
theorem raise_strobe (e : Event) (p : Phase) (s : State) :
    (raise e p s).evValid = true ↔ (raise e p s).evCode ≠ 0#3 := by
  cases e <;> simp [Event.code]

/-- What a byte does ends in the raising of one event, `EV_NONE` among them. -/
theorem onByte_raises {b : Byte} {s t : State} (h : onByte b s = .next t) : ∃ e p u, t = raise e p u := by
  rcases onByte_next h with ⟨-, rfl⟩ | ⟨-, rfl⟩ | ⟨-, rfl⟩ | ⟨-, -, -, rfl⟩ | ⟨-, -, rfl⟩ | ⟨-, -, -, -, -, rfl⟩
  · unfold findSentinel
    split <;> exact ⟨_, _, _, rfl⟩
  · unfold checkHeader
    split <;> exact ⟨_, _, _, rfl⟩
  · rcases readTag_cases b s with ⟨k, -, he⟩ | ⟨-, he⟩ <;> exact ⟨_, _, _, he⟩
  · exact ⟨_, _, _, rfl⟩
  · exact ⟨_, _, _, rfl⟩
  · exact ⟨_, _, _, rfl⟩

/-- What the end of the stream does ends in the raising of one event. -/
theorem onEnd_raises {c : TermCause} {s t : State} (h : onEnd c s = .next t) : ∃ e p u, t = raise e p u := by
  obtain ⟨-, ⟨-, rfl⟩ | ⟨-, rfl⟩⟩ := onEnd_next h <;> exact ⟨_, _, _, rfl⟩

/-- A transaction ends in the raising of one event, `EV_NONE` among them (60_exceptions.md R201). -/
theorem transact_raises {sym : Symbol} {s t : State} (h : transact sym s = .next t) : ∃ e p u, t = raise e p u := by
  obtain ⟨-, ⟨_, -, hb⟩ | ⟨-, he⟩ | ⟨-, he⟩⟩ := transact_next h
  · exact onByte_raises hb
  · exact onEnd_raises he
  · exact onEnd_raises he

/-- After a transaction the strobe and the code tell the same event. -/
theorem transact_strobe {sym : Symbol} {s t : State} (h : transact sym s = .next t) :
    t.evValid = true ↔ t.evCode ≠ 0#3 := by
  obtain ⟨e, p, u, rfl⟩ := transact_raises h
  exact raise_strobe e p u

end Sys2Proof.Machine
end

section
/-! SUPPORT. The statements of the ports, settled. -/

namespace Sys2Proof.PortStatements

open Sys2Proof.Machine

/-- Settles O58: the status signals are the registers, the payload bus by induction on the payload, and the record
signals by the kind of the record. -/
theorem outputPorts : Obligations.OutputPorts := by
  intro p s
  refine ⟨⟨rfl, State.done_iff, rfl, rfl, rfl, rfl, rfl⟩, fun hf => ?_, fun h hf => ?_⟩
  · simp [outputs, hf]
  · refine ⟨by simp [outputs, hf], h.signals, by simp [outputs, hf], rfl, rfl,
      fun _ => payloadBus_byte h.frame.payload, ?_, ?_, ?_, ?_, ?_, ?_, fun hi => hi.held_signals hf⟩
    all_goals
      unfold HeldFrame.signals
      cases h.record <;> rfl

/-- Settles O54, from the definition of `in_ready`. -/
theorem inReady : Obligations.InReady := fun _ _ => inReady_iff

/-- Settles O55: a transfer is a transaction, and a wait is the hand-over of the port registers. -/
theorem inputPort : Obligations.InputPort := by
  intro p s
  refine ⟨fun herr => ?_, fun herr heos => ?_, fun herr heos => ?_, fun hv hr => ?_, fun hrst hl hn => ?_⟩
  · simp [PortIn.symbol, herr]
  · simp [PortIn.symbol, herr, heos]
  · simp [PortIn.symbol, herr, heos]
  · exact cycleTaking_of_inTransfer (inTransfer_iff.mpr ⟨hv, hr⟩) p.symbol
  · exact ⟨handOver p s, cycleTaking_of_no_inTransfer hrst (inTransfer_eq_false_iff.mpr hn) hl, rfl⟩

/-- Settles O57, by the three things a cycle can do: reset, one transaction, or wait. -/
theorem eventStrobe : Obligations.EventStrobe := by
  intro sym p q s t h
  rcases cycleTaking_next h with ⟨hr, rfl⟩ | ⟨-, ht, hx⟩ | ⟨-, ht, -, rfl⟩
  · simp [inTransfer_of_rst hr, hr, resetBlock, State.reset]
  · simp [ht, transact_strobe hx]
  · simp [ht]

end Sys2Proof.PortStatements
end

section
/-! SUPPORT. The multi-byte fields (20_memory.md R52): which integer they are, from the bytes they are made of. -/

namespace Sys2Proof.Machine

/-- The high part of an `append` weighs `2 ^ n`, `n` the width of the low part. -/
theorem append_toNat {m n : Nat} (a : BitVec m) (b : BitVec n) : (a ++ b).toNat = b.toNat + 2 ^ n * a.toNat := by
  rw [BitVec.toNat_append, ← Nat.shiftLeft_add_eq_or_of_lt b.isLt, Nat.shiftLeft_eq, Nat.mul_comm, Nat.add_comm]

/-- The sign bit of an `append` is that of its high part. -/
theorem append_msb {m n : Nat} (hm : m ≠ 0) (a : BitVec m) (b : BitVec n) : (a ++ b).msb = a.msb :=
  BitVec.msb_append.trans (if_neg hm)

/-- A vector with the sign bit of the byte `b` is negative from `b = 128` on. -/
theorem toInt_eq_of_msb_eq {n : Nat} {v : BitVec n} {b : Byte} (h : v.msb = b.msb) :
    v.toInt = v.toNat - (if 128 ≤ b.toNat then ((2 ^ n : Nat) : Int) else 0) := by
  have hb : b.msb = decide (128 ≤ b.toNat) := BitVec.msb_eq_decide b
  rw [BitVec.toInt_eq_msb_cond, h, hb]
  by_cases h128 : 128 ≤ b.toNat <;> simp [h128]

variable (p : List Byte) (i : Nat)

theorem le16_msb : (le16 p i).msb = (byteAt p (i + 1)).msb :=
  append_msb (by decide) _ _

theorem le32_msb : (le32 p i).msb = (byteAt p (i + 3)).msb :=
  calc (le32 p i).msb
    _ = (byteAt p (i + 3) ++ byteAt p (i + 2) ++ byteAt p (i + 1)).msb := append_msb (by decide) _ _
    _ = (byteAt p (i + 3) ++ byteAt p (i + 2)).msb := append_msb (by decide) _ _
    _ = (byteAt p (i + 3)).msb := append_msb (by decide) _ _

theorem le16_toNat : (le16 p i).toNat = (byteAt p i).toNat + 256 * (byteAt p (i + 1)).toNat :=
  append_toNat _ _

theorem le32_toNat : (le32 p i).toNat = (byteAt p i).toNat + 256 * (byteAt p (i + 1)).toNat +
    65536 * (byteAt p (i + 2)).toNat + 16777216 * (byteAt p (i + 3)).toNat := by
  simp only [le32, append_toNat]
  omega

end Sys2Proof.Machine
end

section
/-! SUPPORT. The statement of the multi-byte fields, settled. -/

namespace Sys2Proof.MemoryStatements

open Sys2Proof.Machine

/-- Settles O6: the naturals by the weight of an appended byte, the integers by the sign bit of the top byte. -/
theorem littleEndianFields : Obligations.LittleEndianFields := fun p i =>
  ⟨rfl, rfl, le16_toNat p i, le32_toNat p i, toInt_eq_of_msb_eq (le16_msb p i), toInt_eq_of_msb_eq (le32_msb p i)⟩

end Sys2Proof.MemoryStatements
end

section
/-! SUPPORT. The registry as the list of its seven tags (30_encoding.md R79), and the wire bytes of a frame (R71). -/

namespace Sys2Proof

open Sys2Proof.Machine

/-! ### The registry -/

/-- The bytes that are the tag of a kind, listed. -/
theorem exists_tag_iff_mem {b : Byte} :
    (∃ k, b = FrameKind.tag k) ↔ b ∈ [0x47#8, 0x41#8, 0x53#8, 0x4F#8, 0x4E#8, 0x58#8, 0x54#8] := by
  constructor
  · rintro ⟨k, rfl⟩
    cases k <;> decide
  · intro h
    simp only [List.mem_cons, List.not_mem_nil, or_false] at h
    rcases h with rfl | rfl | rfl | rfl | rfl | rfl | rfl
    exacts [⟨.gps, rfl⟩, ⟨.altitude, rfl⟩, ⟨.status, rfl⟩, ⟨.origin, rfl⟩, ⟨.navigation, rfl⟩, ⟨.gpsExtended, rfl⟩,
      ⟨.tuning, rfl⟩]

/-- An unknown byte selects no kind (R80). -/
theorem kindOf_eq_none {b : Byte} : kindOf b = none ↔ known b = false := by
  simp [known]

/-- A tag determines its kind, because the registry finds the kind from it. -/
theorem FrameKind.tag_injective : Function.Injective FrameKind.tag := by
  intro j k h
  exact Option.some.inj (calc
    some j = kindOf j.tag := (kindOf_tag j).symm
    _ = kindOf k.tag := by rw [h]
    _ = some k := kindOf_tag k)

/-! ### The wire bytes -/

/-- The payload of every frame has the length of its kind. -/
@[simp] theorem Instr.payload_length (i : Instr) : i.payload.length = i.kind.len := by
  cases i with
  | gps => exact (Laws.PayloadLength.gps ..).1
  | altitude => exact (Laws.PayloadLength.altitude ..).1
  | status => exact (Laws.PayloadLength.status ..).1
  | origin => exact (Laws.PayloadLength.origin ..).1
  | navigation => exact (Laws.PayloadLength.navigation ..).1
  | gpsExtended => exact (Laws.PayloadLength.gpsExtended ..).1
  | tuning => exact (Laws.PayloadLength.tuning _).1

theorem Instr.wellFormed_iff {i : Instr} : i.wellFormed = true ↔ i.ck = checksum i.payload := by
  simp [Instr.wellFormed]

theorem encode_eq (i : Instr) : encode i = [0x24#8, 0x54#8, i.kind.tag] ++ i.payload ++ [i.ck] := rfl

/-- A frame takes four bytes more than its payload: sentinel, header, tag and checksum. -/
@[simp] theorem encode_length (i : Instr) : (encode i).length = i.kind.len + 4 := by
  simp only [encode_eq, List.length_append, List.length_cons, List.length_nil, Instr.payload_length]
  omega

end Sys2Proof
end

section
/-! SUPPORT. The statements of the registry and of the wire layout, settled. -/

namespace Sys2Proof.EncodingStatements

open Sys2Proof.Machine

/-- Settles O1: a known byte is the tag of a kind, those tags are the seven listed, and the registry is the inverse
of `tag`. -/
theorem registryOfSevenTags : Obligations.RegistryOfSevenTags :=
  ⟨fun _ => known_iff.trans exists_tag_iff_mem, fun _ => kindOf_eq_none.mpr, rfl, rfl, rfl, rfl, rfl, rfl, rfl,
    kindOf_tag, fun _ _ h => FrameKind.tag_injective h⟩

/-- Settles O5: the layout of `encode`, with the checksum of the payload for the checksum byte of a well-formed
frame. -/
theorem wireLayout : Obligations.WireLayout := by
  intro i hi
  have hck : i.ck = checksum i.payload := Instr.wellFormed_iff.mp hi
  exact ⟨hck ▸ encode_eq i, i.payload_length, encode_length i, exists_tag_iff_mem.mp ⟨i.kind, rfl⟩⟩

end Sys2Proof.EncodingStatements
end

section
/-! SUPPORT. The payload of a frame read from payload bytes is those bytes (30_encoding.md R72 to R78, R81). -/

namespace Sys2Proof

open Sys2Proof.Machine

theorem bytes16_le16 (p : List Byte) (i : Nat) : bytes16 (le16 p i) = [byteAt p i, byteAt p (i + 1)] :=
  bytes16_le _ _

theorem bytes32_le32 (p : List Byte) (i : Nat) :
    bytes32 (le32 p i) = [byteAt p i, byteAt p (i + 1), byteAt p (i + 2), byteAt p (i + 3)] :=
  bytes32_le _ _ _ _

/-- The GPS fields `sats` and `fix` share byte 13 and fill it (R72). -/
theorem bitsAt_sats_append_fix (p : List Byte) : bitsAt p 13 7 2 ++ bitsAt p 13 1 0 = byteAt p 13 :=
  BitVec.extractLsb'_append_extractLsb'_eq_extractLsb' rfl |>.trans BitVec.extractLsb'_eq_self

/-- The Origin flag `osd_on` and the undecoded bits share byte 12 and fill it (R75, R81). -/
theorem bitsAt_unused_append_osdOn (p : List Byte) : bitsAt p 12 7 1 ++ bitsAt p 12 0 0 = byteAt p 12 :=
  BitVec.extractLsb'_append_extractLsb'_eq_extractLsb' rfl |>.trans BitVec.extractLsb'_eq_self

theorem map_byteAt_range (p : List Byte) : (List.range p.length).map (byteAt p) = p :=
  List.ext_getElem (by simp) fun i _ hi => by simp [byteAt, hi]

/-- The payload of a frame read from `p` is the bytes of `p` at the offsets below its kind's length. -/
theorem FrameKind.frame_payload_eq_map (k : FrameKind) (p : List Byte) (ck : Byte) :
    (k.frame p ck).payload = (List.range k.len).map (byteAt p) := by
  cases k with
  | gps =>
    simp only [FrameKind.frame, Instr.payload, gpsPayload, bytes32_le32, bitsAt_sats_append_fix]
    rfl
  | altitude =>
    simp only [FrameKind.frame, Instr.payload, altitudePayload, bytes16_le16]
    rfl
  | status =>
    simp only [FrameKind.frame, Instr.payload, statusPayload, bytes16_le16]
    rfl
  | origin =>
    simp only [FrameKind.frame, Instr.payload, originPayload, bytes32_le32, bitsAt_unused_append_osdOn]
    rfl
  | navigation => rfl
  | gpsExtended =>
    simp only [FrameKind.frame, Instr.payload, gpsExtendedPayload, bytes16_le16]
    rfl
  | tuning => rfl

/-- A payload of its kind's length is the payload of the frame read from it. -/
theorem FrameKind.frame_payload {k : FrameKind} {p : List Byte} (h : p.length = k.len) (ck : Byte) :
    (k.frame p ck).payload = p := by
  rw [k.frame_payload_eq_map, ← h, map_byteAt_range]

/-- The checksum byte plays no part in the record of a frame (41_frame_decoders.md R130). -/
theorem recordOf_frame_ck (k : FrameKind) (p : List Byte) (ck ck' : Byte) :
    recordOf (k.frame p ck) = recordOf (k.frame p ck') := by
  cases k <;> rfl

/-- The record of the frame read from `p` is the one `Decode` answers for its kind's tag and `p`. -/
theorem decodeRecord_tag {k : FrameKind} {p : List Byte} (h : p.length = k.len) (ck : Byte) :
    decodeRecord k.tag p = some (recordOf (k.frame p ck)) := by
  have hf : frameOf k.tag p 0x00#8 = some (k.frame p 0x00#8) := frameOf_eq_some.mpr ⟨k, rfl, h, rfl⟩
  rw [decodeRecord, hf, Option.map_some, recordOf_frame_ck k p 0x00#8 ck]

end Sys2Proof
end

section
/-! SUPPORT. The table of 40_sync_fsm.md R100 read forwards: in a legal state each symbol is answered by the transition
of its row. `onByte_next` and `onEnd_next` read it backwards. -/

namespace Sys2Proof.Machine

section Rows

variable {s : State} (hl : s.Legal)
include hl

theorem transact_byte (b : Byte) : transact (.byte b) s = onByte b s := by
  simp [transact, State.illegal_eq_none.mpr hl]

theorem transact_endOfStream : transact .endOfStream s = onEnd .streamEnd s := by
  simp [transact, State.illegal_eq_none.mpr hl]

theorem transact_readError : transact .readError s = onEnd .streamError s := by
  simp [transact, State.illegal_eq_none.mpr hl]

theorem transact_byte_sent (hs : s.state = Phase.code .sent) (b : Byte) :
    transact (.byte b) s = .next (findSentinel b s) := by
  simp [transact_byte hl, onByte, hs]

theorem transact_byte_hdr (hs : s.state = Phase.code .hdr) (b : Byte) :
    transact (.byte b) s = .next (checkHeader b s) := by
  simp [transact_byte hl, onByte, hs]

theorem transact_byte_type (hs : s.state = Phase.code .type) (b : Byte) :
    transact (.byte b) s = .next (readTag b s) := by
  simp [transact_byte hl, onByte, hs]

theorem transact_byte_pay (hs : s.state = Phase.code .pay) (b : Byte) :
    transact (.byte b) s = readPayload b s := by
  simp [transact_byte hl, onByte, hs]

theorem transact_byte_cks (hs : s.state = Phase.code .cks) (b : Byte) :
    transact (.byte b) s = readChecksum b s := by
  simp [transact_byte hl, onByte, hs]

end Rows

/-- R108: outside a payload, and before the end of the parse, the end of the stream terminates. -/
theorem onEnd_of_not_pay {s : State} (hl : s.Legal) (hp : s.state ≠ Phase.code .pay)
    (hd : s.state ≠ Phase.code .done) (c : TermCause) : onEnd c s = .next (raiseTerminated c s) := by
  unfold onEnd
  split
  · exact absurd (Phase.ofCode_eq_none.mp ‹_›) (by have := hl.1; omega)
  · exact absurd (Phase.ofCode_eq_some.mp ‹_›) hp
  · exact absurd (Phase.ofCode_eq_some.mp ‹_›) hd
  all_goals rfl

theorem onEnd_of_pay {s : State} (hs : s.state = Phase.code .pay) (c : TermCause) :
    onEnd c s = .next (shortPayload Config.malformedOnEmptyEos c s) := by
  simp [onEnd, hs]

@[simp] theorem readTag_tag (k : FrameKind) (s : State) : readTag k.tag s = acceptTag k.tag k s := by
  simp [readTag]

theorem readTag_unknown {b : Byte} (h : known b = false) (s : State) : readTag b s = raiseUnknownTag s := by
  simp [readTag, kindOf_eq_none.mpr h]

/-- R110 and R111: a payload byte for which there is room is stored, and the last one moves on to the checksum. -/
theorem readPayload_stores {s : State} (hlen : s.idx.toNat < s.len.toNat) (hbuf : s.idx.toNat < 14) (b : Byte) :
    readPayload b s =
      .next (goTo (if s.idx.toNat + 1 = s.len.toNat then .cks else .pay) (storePayloadByte b s)) :=
  if_pos ⟨hlen, hbuf⟩

/-- `storePayloadByte` at an index of `buf`, with the index known to be in bounds. -/
theorem storePayloadByte_eq {s : State} (h : s.idx.toNat < 14) (b : Byte) :
    storePayloadByte b s =
      { s with buf := s.buf.set s.idx.toNat b h, acc := s.acc ^^^ b, idx := s.idx + 1 } := by
  have hb : s.buf.setIfInBounds s.idx.toNat b = s.buf.set s.idx.toNat b h :=
    Vector.ext fun i hi => by rw [Vector.getElem_setIfInBounds, Vector.getElem_set]
  rw [storePayloadByte, hb]
  rfl

/-- R106: where the registers spell a frame, the byte `acc` emits it with its record. -/
theorem readChecksum_acc {s : State} {k : FrameKind} (ht : s.tag = k.tag) (hlen : s.len.toNat = k.len) :
    readChecksum s.acc s = .next (raiseFrameOk ⟨s.tag, s.payload⟩ (recordOf (k.frame s.payload s.acc)) s) := by
  have hf : fetchedFrame s.acc s = some (k.frame s.payload s.acc) := fetchedFrame_eq_some.mpr ⟨k, ht, hlen, rfl⟩
  simp [readChecksum, hf, exec_eq_closeFrame, closeFrame, checksumMatch,
    FrameKind.frame_payload (State.payload_length hlen), ht]

/-- R107: every other byte is counted, whether or not the registers spell a frame. -/
theorem readChecksum_of_ne {s : State} {b : Byte} (h : b ≠ s.acc) : readChecksum b s = .next (raiseCksumFail s) := by
  unfold readChecksum
  split
  · rename_i i hi
    obtain ⟨k, -, -, rfl⟩ := fetchedFrame_eq_some.mp hi
    simp [exec_eq_closeFrame, closeFrame, checksumMatch, h]
  · simp [checksumMatch, h]

end Sys2Proof.Machine
end

section
/-! SUPPORT. The statements of the framing state machine (40_sync_fsm.md R100 to R112), settled. -/

namespace Sys2Proof.SyncStatements

open Sys2Proof.Machine

/-- Settles O34: the registers spell the frame of kind `k`, whose payload is `buf[0..len-1]` again and whose record
is the one `Decode` answers. -/
theorem matchingChecksumEmits : Obligations.MatchingChecksumEmits := by
  intro s k hl hs ht hlen
  refine ⟨recordOf (k.frame s.payload s.acc), ?_, ?_⟩
  · exact ht ▸ decodeRecord_tag (State.payload_length hlen) s.acc
  · rw [transact_byte_cks hl hs, readChecksum_acc ht hlen]
    rfl

/-- Settles O28, by whether the byte is the sentinel. -/
theorem sentinelSearch : Obligations.SentinelSearch := by
  intro s b hl hs
  rw [transact_byte_sent hl hs, findSentinel, sentinel]
  split <;> rfl

/-- Settles O29, by whether the byte is the header. -/
theorem headerTest : Obligations.HeaderTest := by
  intro s b hl hs
  rw [transact_byte_hdr hl hs, checkHeader, header]
  split <;> rfl

/-- Settles O30: the registry finds the kind of its tag, and a payload that is not empty is collected next. -/
theorem tagWithPayloadAccepted : Obligations.TagWithPayloadAccepted := by
  intro s k hl hs hk
  rw [transact_byte_type hl hs, readTag_tag, acceptTag, if_neg hk.ne']
  rfl

/-- Settles O31: the Tuning kind has no payload to collect. -/
theorem tuningTagAccepted : Obligations.TuningTagAccepted := by
  intro s hl hs
  exact (transact_byte_type hl hs _).trans (congrArg _ (readTag_tag .tuning s))

/-- Settles O32: an unknown byte selects no kind. -/
theorem unknownTagCounted : Obligations.UnknownTagCounted := by
  intro s b hl hs hb
  rw [transact_byte_type hl hs, readTag_unknown hb]
  rfl

/-- Settles O33: both kinds of byte are stored, and the last one is told by `idx + 1 = len`. -/
theorem payloadByteStored : Obligations.PayloadByteStored := by
  intro s b h hl hs
  refine ⟨fun hmore => ?_, fun hlast => ?_⟩
  · rw [transact_byte_pay hl hs, readPayload_stores (by omega) h, if_neg hmore.ne, storePayloadByte_eq h]
    rfl
  · rw [transact_byte_pay hl hs, readPayload_stores (by omega) h, if_pos hlast, storePayloadByte_eq h]
    rfl

/-- Settles O35: the frame is dropped whatever the registers spell. -/
theorem wrongChecksumDrops : Obligations.WrongChecksumDrops := by
  intro s b hl hs hb
  rw [transact_byte_cks hl hs, readChecksum_of_ne hb]
  rfl

/-- Settles O36: each of the four states is outside a payload and before the end of the parse. -/
theorem streamEndTerminates : Obligations.StreamEndTerminates := by
  intro s hl hs
  obtain ⟨hp, hd⟩ : s.state ≠ Phase.code .pay ∧ s.state ≠ Phase.code .done := by
    rcases hs with hs | hs | hs | hs <;> rw [hs] <;> decide
  have hend := onEnd_of_not_pay hl hp hd
  exact ⟨(transact_endOfStream hl).trans (hend _), (transact_readError hl).trans (hend _)⟩

/-- Settles O37: the block counts whatever `idx` is; with the parameter false it counts exactly if `0 < idx`. -/
theorem shortPayloadCounted : Obligations.ShortPayloadCounted := by
  refine ⟨fun s hl hs => ⟨?_, ?_⟩, fun s c => ?_, fun s c hidx => ?_, fun s c hidx => ?_⟩
  · exact (transact_endOfStream hl).trans (onEnd_of_pay hs _)
  · exact (transact_readError hl).trans (onEnd_of_pay hs _)
  · exact if_pos (.inr rfl)
  · rw [shortPayload, shortPayload, if_pos (.inl hidx), if_pos (.inr rfl)]
  · exact if_neg (by simp [hidx])

end Sys2Proof.SyncStatements
end

section
/-! SUPPORT. What `Decode` answers for a payload of its kind's length, and what each field of the answer reads as
(41_frame_decoders.md R130 to R139, 30_encoding.md R83); the fixed-point scales (R140). -/

namespace Sys2Proof.Machine

/-- The fields of a decoded record read as its kind's layout table says. -/
theorem recordOf_frame_integers (k : FrameKind) (p : List Byte) (ck : Byte) :
    (recordOf (k.frame p ck)).integers = integersOf k p := by
  cases k <;> rfl

/-- A decoder rule, from its two tables: the record is the one of the frame that the payload's operand forms spell,
and its integers are the layout's. -/
theorem decodeRecord_of_layout {k : FrameKind} {p : List Byte} {record : FrameRecord} {ints : List (FieldName × Int)}
    (hp : p.length = k.len) (hrec : recordOf (k.frame p 0x00#8) = record) (hints : integersOf k p = ints) :
    decodeRecord k.tag p = some record ∧ ∀ r, decodeRecord k.tag p = some r → r.integers = ints := by
  have hdec : decodeRecord k.tag p = some record := hrec ▸ decodeRecord_tag hp 0x00#8
  refine ⟨hdec, fun r hr => ?_⟩
  obtain rfl : record = r := Option.some.inj (hdec.symm.trans hr)
  rw [← hrec, recordOf_frame_integers, hints]

/-! ### Fixed-point scales -/

/-- A field whose divisor is the numeral `d` stands for `raw / d`. -/
theorem FieldName.value_of_divisor {n : FieldName} {d : Nat} [d.AtLeastTwo] (h : n.divisor = OfNat.ofNat d) (raw : Int) :
    n.value raw = (raw : Rat) / OfNat.ofNat d := by
  rw [FieldName.value, h, Nat.cast_ofNat]

/-- No field but the six of R140 is scaled. -/
theorem FieldName.divisor_eq_one {n : FieldName} (h : n ∉ [FieldName.lat, .lon, .alt, .vbat, .consumed, .hdop]) :
    n.divisor = 1 := by
  revert h
  cases n <;> decide

theorem FieldName.value_unscaled {n : FieldName} (h : n.divisor = 1) (raw : Int) : n.value raw = raw := by
  rw [FieldName.value, h, Nat.cast_one, div_one]

end Sys2Proof.Machine
end

section
/-! SUPPORT. The statements of the seven decoders, the flag table and the fixed-point scales, settled. -/

namespace Sys2Proof.DecoderStatements

open Sys2Proof.Machine

/-- Settles O7: the GPS frame and layout (R72, R132) evaluated at the fourteen bytes. -/
theorem gpsDecoder : Obligations.GpsDecoder := by
  intro b0 b1 b2 b3 b4 b5 b6 b7 b8 b9 b10 b11 b12 b13
  exact decodeRecord_of_layout (k := .gps) rfl rfl rfl

/-- Settles O8: the Altitude frame and layout (R73, R133) evaluated at the six bytes. -/
theorem altitudeDecoder : Obligations.AltitudeDecoder := by
  intro b0 b1 b2 b3 b4 b5
  exact decodeRecord_of_layout (k := .altitude) rfl rfl rfl

/-- Settles O9: the Status frame and layout (R74, R134) evaluated at the seven bytes, the flags left in the OPEN mode. -/
theorem statusDecoder : Obligations.StatusDecoder := by
  intro b0 b1 b2 b3 b4 b5 b6
  exact decodeRecord_of_layout (k := .status) rfl rfl rfl

/-- Settles O10: in each mode the two flag functions are their branch for it; the record copies them and the packed byte. -/
theorem statusFlagTable : Obligations.StatusFlagTable := fun _ =>
  ⟨⟨rfl, rfl⟩, ⟨rfl, rfl⟩, ⟨rfl, rfl⟩, fun _ _ _ _ _ => ⟨rfl, rfl, rfl⟩⟩

/-- Settles O11: the Origin frame and layout (R75, R136) evaluated at the fourteen bytes. -/
theorem originDecoder : Obligations.OriginDecoder := by
  intro b0 b1 b2 b3 b4 b5 b6 b7 b8 b9 b10 b11 b12 b13
  exact decodeRecord_of_layout (k := .origin) rfl rfl rfl

/-- Settles O12: the Navigation frame and layout (R76, R137) evaluated at the six bytes, under the OPEN maxima. -/
theorem navigationDecoder : Obligations.NavigationDecoder := by
  intro b0 b1 b2 b3 b4 b5
  exact decodeRecord_of_layout (k := .navigation) rfl rfl rfl

/-- Settles O13: the GPS-Extended frame and layout (R77, R138) evaluated at the six bytes; no row reads byte 5. -/
theorem gpsExtendedDecoder : Obligations.GpsExtendedDecoder := by
  intro b0 b1 b2 b3 b4 b5
  exact decodeRecord_of_layout (k := .gpsExtended) rfl rfl rfl

/-- Settles O14: the empty payload has the length of the Tuning kind. -/
theorem tuningDecoder : Obligations.TuningDecoder :=
  ⟨decodeRecord_tag (k := .tuning) rfl 0x00#8, rfl, rfl⟩

/-- Settles O17: the six divisors, and 1 for every other field. -/
theorem fixedPointScales : Obligations.FixedPointScales := fun raw =>
  ⟨FieldName.value_of_divisor rfl raw, FieldName.value_of_divisor rfl raw, FieldName.value_of_divisor rfl raw,
    FieldName.value_of_divisor rfl raw, FieldName.value_of_divisor rfl raw, FieldName.value_of_divisor rfl raw,
    fun _ hn => FieldName.value_unscaled (FieldName.divisor_eq_one hn) raw⟩

end Sys2Proof.DecoderStatements
end

section
/-! SUPPORT. `decode` and `encode` are inverse to each other (30_encoding.md R71, R82, R84): a frame is found again in
the payload and the checksum byte it spells, and the bytes that decode are those that `encode` writes. -/

namespace Sys2Proof

open Sys2Proof.Machine

/-- Every field of a frame is read back from the frame's own payload. -/
@[simp] theorem Instr.kind_frame_payload (i : Instr) : i.kind.frame i.payload i.ck = i := by
  cases i with
  | gps lat lon gs alt fix sats ck =>
    exact (Instr.gps.injEq ..).mpr
      ⟨le_bytes32 lat, le_bytes32 lon, rfl, le_bytes32 alt, append_low sats fix, append_high sats fix, rfl⟩
  | altitude pitch roll heading ck =>
    exact (Instr.altitude.injEq ..).mpr ⟨le_bytes16 pitch, le_bytes16 roll, le_bytes16 heading, rfl⟩
  | status vbat consumed rssi airspeed statusRaw ck =>
    exact (Instr.status.injEq ..).mpr ⟨le_bytes16 vbat, le_bytes16 consumed, rfl, rfl, rfl, rfl⟩
  | origin lat lon alt osdOn unused fix ck =>
    exact (Instr.origin.injEq ..).mpr
      ⟨le_bytes32 lat, le_bytes32 lon, le_bytes32 alt, append_low unused osdOn, append_high unused osdOn, rfl, rfl⟩
  | navigation => rfl
  | gpsExtended hdop => exact (Instr.gpsExtended.injEq ..).mpr ⟨le_bytes16 hdop, rfl, rfl, rfl, rfl, rfl⟩
  | tuning => rfl

/-- From the tag on, a frame decodes exactly from its tag, its payload and its checksum byte. -/
theorem decodeFromTag_eq_ok {bs rest : List Byte} {i : Instr} :
    decodeFromTag bs = .ok (i, rest) ↔ bs = i.kind.tag :: i.payload ++ i.ck :: rest := by
  constructor
  · intro h
    unfold decodeFromTag at h
    split at h
    · cases h
    · rename_i tag body
      split at h
      · cases h
      · rename_i k hk
        split at h
        · cases h
        · rename_i hlen
          split at h
          · cases h
          · rename_i ck tail hdrop
            cases h
            have htake : (body.take k.len).length = k.len := List.length_take_of_le (Nat.le_of_not_lt hlen)
            rw [FrameKind.frame_kind, FrameKind.frame_payload htake, FrameKind.frame_ck, ← kindOf_eq_some.mp hk,
              ← hdrop, List.cons_append, List.take_append_drop]
  · rintro rfl
    have htake : (i.payload ++ i.ck :: rest).take i.kind.len = i.payload := List.take_left' i.payload_length
    have hdrop : (i.payload ++ i.ck :: rest).drop i.kind.len = i.ck :: rest := List.drop_left' i.payload_length
    simp [decodeFromTag, htake, hdrop]

theorem decode_eq_ok_iff_decodeFromTag {bs : List Byte} {x : Instr × List Byte} :
    decode bs = .ok x ↔ ∃ body, bs = sentinel :: header :: body ∧ decodeFromTag body = .ok x := by
  constructor
  · intro h
    unfold decode at h
    split at h
    · cases h
    · split at h
      · cases h
      · rename_i hb0
        split at h
        · cases h
        · split at h
          · cases h
          · rename_i hb1
            exact ⟨_, by rw [not_not.mp hb0, not_not.mp hb1], h⟩
  · rintro ⟨body, rfl, h⟩
    simpa [decode] using h

/-- Bytes decode to a frame and a rest exactly if they are the bytes of that frame followed by that rest. -/
theorem decode_eq_ok {bs rest : List Byte} {i : Instr} : decode bs = .ok (i, rest) ↔ bs = encode i ++ rest := by
  simp [decode_eq_ok_iff_decodeFromTag, decodeFromTag_eq_ok, encode, badFrameBytes]

end Sys2Proof
end

section
/-! SUPPORT. The checksum (42_checksum.md R182) as an XOR: byte by byte from either end, and under a change of one
byte. -/

namespace Sys2Proof.Machine

theorem checksum_append_singleton (p : List Byte) (b : Byte) : checksum (p ++ [b]) = checksum p ^^^ b := by
  simp [checksum, checksumAccumulate]

theorem checksum_cons (b : Byte) (p : List Byte) : checksum (b :: p) = b ^^^ checksum p := by
  induction p using List.reverseRecOn with
  | nil => simp [checksum, checksumAccumulate, checksumClear]
  | append_singleton p c ih =>
    rw [← List.cons_append, checksum_append_singleton, ih, checksum_append_singleton, BitVec.xor_assoc]

theorem checksum_perm {p q : List Byte} (h : p.Perm q) : checksum p = checksum q := by
  induction h with
  | nil => rfl
  | cons b _ ih => rw [checksum_cons, checksum_cons, ih]
  | swap b c p => simp only [checksum_cons, ← BitVec.xor_assoc, BitVec.xor_comm b c]
  | trans _ _ ih₁ ih₂ => exact ih₁.trans ih₂

/-- A byte changed by XOR changes the checksum by the same XOR. -/
theorem checksum_modify_xor {p : List Byte} {i : Nat} (h : i < p.length) (m : Byte) :
    checksum (p.modify i (fun b => b ^^^ m)) = checksum p ^^^ m := by
  induction p generalizing i with
  | nil => cases h
  | cons b p ih =>
    cases i with
    | zero =>
      rw [List.modify_zero_cons, checksum_cons, checksum_cons, BitVec.xor_assoc, BitVec.xor_comm m, BitVec.xor_assoc]
    | succ i =>
      rw [List.modify_succ_cons, checksum_cons, checksum_cons, ih (Nat.lt_of_succ_lt_succ h), BitVec.xor_assoc]

/-- R185: a flipped bit is always detected, because the checksum differs by that very bit. -/
theorem checksum_modify_flip_ne {p : List Byte} {i j : Nat} (hi : i < p.length) (hj : j < 8) :
    checksum (p.modify i (fun b => b ^^^ BitVec.twoPow 8 j)) ≠ checksum p := by
  rw [checksum_modify_xor hi]
  intro h
  have hbit : ((checksum p ^^^ BitVec.twoPow 8 j).getLsbD j) = (checksum p).getLsbD j := by rw [h]
  simp [hj] at hbit

end Sys2Proof.Machine
end

section
/-! SUPPORT. The statements of the codec, of the records as a whole and of the checksum, settled. -/

namespace Sys2Proof.CodecStatements

open Sys2Proof.Machine

/-- Settles O2: the bytes of a frame and a rest are what decodes to that frame and that rest. -/
theorem decodeOfEncode : Obligations.DecodeOfEncode := fun _ _ => decode_eq_ok.mpr rfl

/-- Settles O3, by the same equivalence read the other way. -/
theorem encodeOfDecode : Obligations.EncodeOfDecode := fun _ _ _ => decode_eq_ok.mp

/-- Settles O4: the words written out are the bytes of those frames. -/
theorem sampleFramesDecode : Obligations.SampleFramesDecode :=
  ⟨decode_eq_ok.mpr rfl, decode_eq_ok.mpr rfl, decode_eq_ok.mpr rfl⟩

/-- Settles O15: `Decode` asks for a known tag and a payload of its length, and for nothing else. -/
theorem decodeIsTotalOnKnownFrames : Obligations.DecodeIsTotalOnKnownFrames := by
  intro tag p
  simp only [kindOf_eq_some]
  constructor
  · rintro ⟨r, hr⟩
    exact decodeRecord_shape hr
  · rintro ⟨k, rfl, hp⟩
    exact ⟨_, decodeRecord_tag hp 0x00#8⟩

/-- Settles O16: a decoded record is that of the frame the payload spells, whose fields follow the layout table. -/
theorem recordFollowsLayout : Obligations.RecordFollowsLayout := by
  intro k p r hr
  obtain ⟨j, htag, hp⟩ := decodeRecord_shape hr
  obtain rfl : k = j := FrameKind.tag_injective htag
  exact (decodeRecord_of_layout hp rfl rfl).2 r hr

/-- Settles O18: by induction on the payload from its end, and on the permutation. -/
theorem checksumIgnoresOrder : Obligations.ChecksumIgnoresOrder :=
  ⟨rfl, checksum_cons, fun _ _ => checksum_perm⟩

end Sys2Proof.CodecStatements
end

section
/-! SUPPORT. What the meaning of a frame is when its checksum byte is the register `acc`, and when it is not
(40_sync_fsm.md R106, R107). -/

namespace Sys2Proof.Machine

/-- R106: the frame is emitted with its record. -/
theorem exec_of_ck_eq {i : Instr} {s : State} (h : i.ck = s.acc) :
    exec i s = .next (raiseFrameOk ⟨i.kind.tag, i.payload⟩ (recordOf i) s) := by
  simp [exec_eq_closeFrame, closeFrame, checksumMatch, h]

/-- R107: the frame is dropped and counted. -/
theorem exec_of_ck_ne {i : Instr} {s : State} (h : i.ck ≠ s.acc) : exec i s = .next (raiseCksumFail s) := by
  simp [exec_eq_closeFrame, closeFrame, checksumMatch, h]

end Sys2Proof.Machine
end

section
/-! SUPPORT. The statements of what each frame does, settled. -/

namespace Sys2Proof.FrameStatements

open Sys2Proof.Machine

/-- Settles O20: R106 for the GPS payload and record. -/
theorem gpsCompletes : Obligations.GpsCompletes := fun lat lon gs alt fix sats s =>
  exec_of_ck_eq (i := .gps lat lon gs alt fix sats s.acc) rfl

/-- Settles O21: R106 for the Altitude payload and record. -/
theorem altitudeCompletes : Obligations.AltitudeCompletes := fun pitch roll heading s =>
  exec_of_ck_eq (i := .altitude pitch roll heading s.acc) rfl

/-- Settles O22: R106 for the Status payload and record. -/
theorem statusCompletes : Obligations.StatusCompletes := fun vbat consumed rssi airspeed raw s =>
  exec_of_ck_eq (i := .status vbat consumed rssi airspeed raw s.acc) rfl

/-- Settles O23: R106 for the Origin payload and record. -/
theorem originCompletes : Obligations.OriginCompletes := fun lat lon alt osdOn unused fix s =>
  exec_of_ck_eq (i := .origin lat lon alt osdOn unused fix s.acc) rfl

/-- Settles O24: R106 for the Navigation payload and record. -/
theorem navigationCompletes : Obligations.NavigationCompletes := fun gm nm na wp ne flags s =>
  exec_of_ck_eq (i := .navigation gm nm na wp ne flags s.acc) rfl

/-- Settles O25: R106 for the GPS-Extended payload and record. -/
theorem gpsExtendedCompletes : Obligations.GpsExtendedCompletes := fun hdop hw ctr dr unused s =>
  exec_of_ck_eq (i := .gpsExtended hdop hw ctr dr unused s.acc) rfl

/-- Settles O26: R106 for the empty Tuning payload and record. -/
theorem tuningCompletes : Obligations.TuningCompletes := fun s =>
  exec_of_ck_eq (i := .tuning s.acc) rfl

/-- Settles O27: R107 for a frame of any kind. -/
theorem wrongChecksumByteIsCounted : Obligations.WrongChecksumByteIsCounted := fun _ _ => exec_of_ck_ne

end Sys2Proof.FrameStatements
end

section
/-! SUPPORT. Steps and cycles of a state that holds an unused code, of one whose parse has ended, and in reset; what
a step reads, and runs of steps. -/

namespace Sys2Proof.Machine

/-! ### Refusals -/

theorem transact_of_illegal {s : State} {r : Refusal} (h : s.illegal = some r) (sym : Symbol) :
    transact sym s = .refused r := by
  simp [transact, h]

/-- A cycle without reset refuses a state with an unused code, whether it would take a symbol or wait. -/
theorem cycleTaking_of_illegal {s : State} {r : Refusal} (h : s.illegal = some r) {p : PortIn} (hr : p.rst = false)
    (sym : Symbol) : cycleTaking sym p s = .refused r := by
  have hh : (handOver p s).illegal = some r := h
  unfold cycleTaking
  simp [hr, transact_of_illegal hh, h]

theorem step_of_illegal {s : State} {r : Refusal} (h : s.illegal = some r) : step s = .refused r := by
  unfold step readStream
  split
  · exact cycleTaking_of_illegal h rfl _
  · rename_i sym rest _
    have hrest : ({ s with input := rest } : State).illegal = some r := h
    split
    · exact cycleTaking_of_illegal hrest rfl _
    · exact cycleTaking_of_illegal h rfl _

/-- R109: there is no transaction in `S_DONE`. -/
theorem transact_of_done {s : State} (hl : s.Legal) (hs : s.state = Phase.code .done) (sym : Symbol) :
    transact sym s = .refused .parseEnded := by
  cases sym with
  | byte b => simp [transact_byte hl, onByte, hs]
  | endOfStream => simp [transact_endOfStream hl, onEnd, hs]
  | readError => simp [transact_readError hl, onEnd, hs]

theorem inReady_of_done {s : State} (hs : s.state = Phase.code .done) (p : PortIn) : inReady p s = false := by
  simp [inReady, State.done, hs]

/-- Where `tag` and `len` belong to no kind, the registers spell no frame. -/
theorem fetchedFrame_eq_none {s : State} (h : ¬ ∃ k : FrameKind, s.tag = k.tag ∧ s.len.toNat = k.len) (ck : Byte) :
    fetchedFrame ck s = none := by
  rw [Option.eq_none_iff_forall_ne_some]
  intro i hi
  obtain ⟨k, htag, hlen, -⟩ := fetchedFrame_eq_some.mp hi
  exact h ⟨k, htag, hlen⟩

/-! ### Reset -/

theorem cycleTaking_of_rst {p : PortIn} (h : p.rst = true) (sym : Symbol) (s : State) :
    cycleTaking sym p s = .next (resetBlock s) :=
  if_pos h

/-! ### Steps -/

theorem State.done_eq_false_iff {s : State} : s.done = false ↔ s.state ≠ Phase.code .done := by
  rw [Ne, ← State.done_iff, Bool.not_eq_true]

/-- The state at which a step runs its transaction: the symbol has left the stream, and the ready consumer has taken
the held frame (log entry 1). -/
def State.reading (s : State) (rest : List Symbol) : State := { s with input := rest, fo := none, evValid := false }

/-- A symbol next on the stream is read by the next step of a running parse. -/
theorem step_reads_of_ne_done {s : State} {sym : Symbol} {rest : List Symbol} (hi : s.input = sym :: rest)
    (hs : s.state ≠ Phase.code .done) : step s = transact sym (s.reading rest) :=
  step_reads hi (State.done_eq_false_iff.mpr hs)

/-- Where the registers and the checksum byte spell a frame, reading that byte is the frame's meaning (log entry 4). -/
theorem readChecksum_of_frameOf {s : State} {b : Byte} {i : Instr} (hlen : s.len.toNat ≤ Config.maxLen)
    (hi : frameOf s.tag s.payload b = some i) : readChecksum b s = exec i s := by
  simp [readChecksum, fetchedFrame, hlen, hi]

/-- The step that reads the checksum byte runs the frame. -/
theorem step_runs_frame {s : State} {b : Byte} {rest : List Symbol} {i : Instr} (hl : s.Legal)
    (hs : s.state = Phase.code .cks) (hlen : s.len.toNat ≤ Config.maxLen) (hin : s.input = .byte b :: rest)
    (hi : frameOf s.tag s.payload b = some i) :
    step s = exec i (s.reading rest) :=
  calc step s
    _ = transact (.byte b) (s.reading rest) := step_reads_of_ne_done hin (by rw [hs]; decide)
    _ = readChecksum b (s.reading rest) := transact_byte_cks (s := s.reading rest) hl hs b
    _ = exec i (s.reading rest) := readChecksum_of_frameOf (s := s.reading rest) hlen hi

theorem Phase.code_toNat_le (p : Phase) : p.code.toNat ≤ 5 := by
  cases p <;> decide

theorem goTo_legal {s : State} (hl : s.Legal) (p : Phase) : (goTo p s).Legal := by
  obtain ⟨-, hterm, -⟩ := hl
  exact ⟨p.code_toNat_le, hterm, Nat.zero_le 5⟩

section Bytes

variable {s : State} {b : Byte} {rest : List Symbol} (hl : s.Legal) (hin : s.input = .byte b :: rest)
include hl hin

theorem step_byte_sent (hs : s.state = Phase.code .sent) : step s = .next (findSentinel b (s.reading rest)) :=
  (step_reads_of_ne_done hin (by rw [hs]; decide)).trans (transact_byte_sent (s := s.reading rest) hl hs b)

theorem step_byte_hdr (hs : s.state = Phase.code .hdr) : step s = .next (checkHeader b (s.reading rest)) :=
  (step_reads_of_ne_done hin (by rw [hs]; decide)).trans (transact_byte_hdr (s := s.reading rest) hl hs b)

theorem step_byte_type (hs : s.state = Phase.code .type) : step s = .next (readTag b (s.reading rest)) :=
  (step_reads_of_ne_done hin (by rw [hs]; decide)).trans (transact_byte_type (s := s.reading rest) hl hs b)

theorem step_byte_pay (hs : s.state = Phase.code .pay) : step s = readPayload b (s.reading rest) :=
  (step_reads_of_ne_done hin (by rw [hs]; decide)).trans (transact_byte_pay (s := s.reading rest) hl hs b)

end Bytes

/-! ### Runs of steps -/

theorem runSteps_succ {s t : State} (h : step s = .next t) (n : Nat) : runSteps (n + 1) s = runSteps n t := by
  simp [runSteps, h]

theorem runSteps_one (s : State) : runSteps 1 s = step s := by
  unfold runSteps
  cases step s <;> rfl

/-- A run of steps goes on from where its first part has led. -/
theorem runSteps_add {m : Nat} {s t : State} (h : runSteps m s = .next t) (n : Nat) :
    runSteps (m + n) s = runSteps n t := by
  induction m generalizing s with
  | zero =>
    cases h
    rw [Nat.zero_add]
  | succ m ih =>
    cases hu : step s with
    | next u =>
      rw [runSteps_succ hu] at h
      rw [Nat.succ_add, runSteps_succ hu, ih h]
    | fault f => simp [runSteps, hu] at h
    | refused r => simp [runSteps, hu] at h

end Sys2Proof.Machine
end

section
/-! SUPPORT. The statements of refusals, of the ended parse, of reset and of single steps, settled. -/

namespace Sys2Proof.StepStatements

open Sys2Proof.Machine

/-- Settles O38: the codes are tested in the order of `State.illegal`; and where the registers spell no frame the byte
`acc` has no record to emit. -/
theorem unusedCodesRefused : Obligations.UnusedCodesRefused := by
  refine ⟨fun s sym => ⟨fun hs => ?_, fun hs ht => ?_, fun hs ht he => ?_⟩, fun s hl hs hk => ?_⟩
  · have hill : s.illegal = some .illegalState := by
      rcases hs with hs | hs <;> simp [State.illegal, hs]
    exact ⟨transact_of_illegal hill sym, step_of_illegal hill⟩
  · exact transact_of_illegal (by simp [State.illegal, ht, Nat.not_lt.mpr hs]) sym
  · have he5 : 5 < s.evCode.toNat := by rcases he with he | he <;> simp [he]
    exact transact_of_illegal (by simp [State.illegal, ht, Nat.not_lt.mpr hs, he5]) sym
  · rw [transact_byte_cks hl hs]
    simp [readChecksum, fetchedFrame_eq_none hk, checksumMatch]

/-- Settles O39, by induction on the number of steps: each of them waits. -/
theorem doneReadsNothing : Obligations.DoneReadsNothing := by
  intro n s hl hs
  refine ⟨?_, inReady_of_done hs, transact_of_done hl hs⟩
  induction n generalizing s with
  | zero => rw [runSteps_one, step_waits (.inr (State.done_iff.mpr hs)) hl]
  | succ n ih =>
    rw [runSteps_succ (step_waits (.inr (State.done_iff.mpr hs)) hl)]
    exact ih { s with fo := none, evValid := false } hl hs

/-- Settles O40: the transaction of the checksum byte is the frame's meaning. -/
theorem stepRunsDecodedFrame : Obligations.StepRunsDecodedFrame := fun _ _ _ _ hl hs hlen hin hi =>
  step_runs_frame hl hs hlen hin hi

/-- Settles O41, by what a step does with a symbol to read and without one. -/
theorem stepTakesOneSymbol : Obligations.StepTakesOneSymbol := fun _ hl =>
  ⟨fun _ _ hs hin => step_reads_of_ne_done hin hs, fun hin => step_waits (.inl hin) hl⟩

/-- Settles O44: the second `'$'` is rejected as a header, and `'T'` is then no sentinel. -/
theorem noOverlappedSentinel : Obligations.NoOverlappedSentinel := by
  intro s rest hl hs hin
  have hfirst : step s = .next (goTo .hdr (s.reading (byteSymbols [0x24#8, 0x54#8] ++ rest))) :=
    step_byte_sent hl hin hs
  have hsecond : step (goTo .hdr (s.reading (byteSymbols [0x24#8, 0x54#8] ++ rest))) =
      .next (goTo .sent (s.reading (byteSymbols [0x54#8] ++ rest))) :=
    step_byte_hdr (goTo_legal (s := s.reading _) hl .hdr) rfl rfl
  have hthird : step (goTo .sent (s.reading (byteSymbols [0x54#8] ++ rest))) = .next (goTo .sent (s.reading rest)) :=
    step_byte_sent (goTo_legal (s := s.reading _) hl .sent) rfl rfl
  have hlast : goTo .sent (s.reading rest) = { s with input := rest, fo := none, evCode := 0#3, evValid := false } :=
    congrArg (fun c => { s with state := c, input := rest, fo := none, evCode := 0#3, evValid := false }) hs.symm
  rw [runSteps_succ hfirst, runSteps_succ hsecond, runSteps_one, hthird, hlast]

/-- Settles O45, by evaluating the reset state. -/
theorem resetState : Obligations.ResetState := ⟨rfl, rfl, rfl, rfl, rfl, rfl, rfl, rfl, rfl, rfl⟩

/-- Settles O52: an increment is a bit vector's, and an unknown tag increments once. -/
theorem countersWrap : Obligations.CountersWrap := by
  refine ⟨fun c => BitVec.toNat_add c 1, fun s b hl hs hb hc => ?_⟩
  refine ⟨raiseUnknownTag s, by rw [transact_byte_type hl hs, readTag_unknown hb], ?_, rfl⟩
  rw [raiseUnknownTag_cntUnknown, hc]
  rfl

/-- Settles O56: reset is tested before the offer and before the codes. -/
theorem resetHasPriority : Obligations.ResetHasPriority := fun sym _ s h =>
  ⟨cycleTaking_of_rst h sym s, by simp [inReady, h], inTransfer_of_rst h s⟩

end Sys2Proof.StepStatements
end

section
/-! SUPPORT. The fetch of a frame from the search for a sentinel: its bytes, read one a step, lead to the state that
`stageFrame` stages (40_sync_fsm.md R101 to R111, log entries 4 and 5). -/

namespace Sys2Proof.Machine

/-! ### The payload buffer -/

theorem setIfInBounds_toList {i : Nat} {b : Byte} {v : Vector Byte Config.maxLen} (h : i < 14) :
    (v.setIfInBounds i b).toList = (v.toList.take i ++ [b]) ++ v.toList.drop (i + 1) := by
  have hi : i < v.toList.length := by rwa [Vector.length_toList]
  rw [Vector.toList_setIfInBounds, List.set_eq_take_append_cons_drop, if_pos hi, List.append_assoc,
    List.singleton_append]

theorem take_append_singleton_length {i : Nat} {b : Byte} {v : Vector Byte Config.maxLen} (h : i < 14) :
    (v.toList.take i ++ [b]).length = i + 1 := by
  rw [List.length_append, List.length_singleton, List.length_take_of_le (by rw [Vector.length_toList]; exact h.le)]

/-- `fillBuf` leaves the registers below `i` and those above the bytes written as they are. -/
theorem fillBuf_toList {i : Nat} {p : List Byte} {v : Vector Byte Config.maxLen} (h : i + p.length ≤ 14) :
    (fillBuf i p v).toList = v.toList.take i ++ p ++ v.toList.drop (i + p.length) := by
  induction p generalizing i v with
  | nil => simp [fillBuf]
  | cons b p ih =>
    rw [List.length_cons] at h ⊢
    have hi : i < 14 := by omega
    have hroom : i + 1 + p.length ≤ 14 := by omega
    have hlen : (v.toList.take i ++ [b]).length = i + 1 := take_append_singleton_length hi
    rw [fillBuf, ih hroom, setIfInBounds_toList hi, List.take_left' hlen, ← List.drop_drop, List.drop_left' hlen,
      List.drop_drop, List.append_assoc _ [b], List.singleton_append, Nat.add_assoc, Nat.add_comm 1]

/-- One more byte is written behind those written before. -/
theorem fillBuf_append_singleton (i : Nat) (p : List Byte) (b : Byte) (v : Vector Byte Config.maxLen) :
    fillBuf i (p ++ [b]) v = (fillBuf i p v).setIfInBounds (i + p.length) b := by
  induction p generalizing i v with
  | nil => rfl
  | cons c p ih => rw [List.cons_append, fillBuf, ih, fillBuf, List.length_cons, Nat.add_right_comm, Nat.add_assoc]

theorem fillBuf_take {p : List Byte} (v : Vector Byte Config.maxLen) (h : p.length ≤ 14) :
    (fillBuf 0 p v).toList.take p.length = p := by
  rw [fillBuf_toList (by omega)]
  simp

theorem fillBuf_drop {p : List Byte} (v : Vector Byte Config.maxLen) (h : p.length ≤ 14) :
    (fillBuf 0 p v).toList.drop p.length = v.toList.drop p.length := by
  rw [fillBuf_toList (by omega)]
  simp

/-! ### A frame in progress -/

/-- The state in which a block that was in `s` has read a frame of kind `k` up to its payload bytes `p`, with `rest`
still on the stream: the registers staged for `p`, in `S_PAY` until the payload is complete. -/
def fetching (k : FrameKind) (p : List Byte) (rest : List Symbol) (s : State) : State :=
  { stageFrame k p s with
    state := (if p.length = k.len then Phase.cks else .pay).code
    idx := BitVec.ofNat 4 p.length
    evCode := 0#3
    evValid := false
    fo := none
    input := rest }

variable {s : State} {k : FrameKind} {p : List Byte} {rest : List Symbol}

theorem fetching_legal (hl : s.Legal) : (fetching k p rest s).Legal := by
  obtain ⟨-, hterm, -⟩ := hl
  exact ⟨Phase.code_toNat_le _, hterm, Nat.zero_le 5⟩

theorem ofNat_toNat_of_le_len {n : Nat} (h : n ≤ k.len) : (BitVec.ofNat 4 n).toNat = n := by
  have hk : k.len ≤ 14 := k.len_le
  rw [BitVec.toNat_ofNat, Nat.mod_eq_of_lt (by omega)]

@[simp] theorem fetching_len_toNat : (fetching k p rest s).len.toNat = k.len := k.len_toNat

theorem fetching_idx_toNat (h : p.length ≤ k.len) : (fetching k p rest s).idx.toNat = p.length :=
  ofNat_toNat_of_le_len h

/-- Storing a payload byte for which there is room is reading one byte more. -/
theorem goTo_storePayloadByte_fetching (h : p.length < k.len) (b : Byte) :
    goTo (if p.length + 1 = k.len then .cks else .pay) (storePayloadByte b (fetching k p rest s)) =
      fetching k (p ++ [b]) rest s := by
  have hidx : (BitVec.ofNat 4 p.length).toNat = p.length := ofNat_toNat_of_le_len h.le
  simp [fetching, stageFrame, goTo, raise, storePayloadByte, fillBuf_append_singleton, checksum_append_singleton,
    checksumAccumulate, hidx, BitVec.ofNat_add, Event.code]

/-- R110, R111: a step reads one payload byte. -/
theorem step_fetching (hl : s.Legal) (h : p.length < k.len) (b : Byte) :
    step (fetching k p (.byte b :: rest) s) = .next (fetching k (p ++ [b]) rest s) := by
  have hpay : (fetching k p (.byte b :: rest) s).state = Phase.code .pay :=
    congrArg Phase.code (if_neg h.ne)
  have hk : k.len ≤ 14 := k.len_le
  have hidx : (fetching k p rest s).idx.toNat = p.length := fetching_idx_toNat h.le
  have hlen : (fetching k p rest s).len.toNat = k.len := fetching_len_toNat
  calc step (fetching k p (.byte b :: rest) s)
    _ = readPayload b (fetching k p rest s) := step_byte_pay (fetching_legal hl) rfl hpay
    _ = .next (fetching k (p ++ [b]) rest s) := by
      rw [readPayload_stores (by omega) (by omega), hidx, hlen, goTo_storePayloadByte_fetching h]

/-- The bytes of a payload are collected, one a step. -/
theorem runSteps_fetching (hl : s.Legal) {p q : List Byte} (h : p.length + q.length = k.len) :
    runSteps q.length (fetching k p (byteSymbols q ++ rest) s) = .next (fetching k (p ++ q) rest s) := by
  induction q generalizing p with
  | nil =>
    rw [List.append_nil]
    rfl
  | cons b q ih =>
    have hp : p.length < k.len := by simp at h; omega
    have hstep : step (fetching k p (byteSymbols (b :: q) ++ rest) s) =
        .next (fetching k (p ++ [b]) (byteSymbols q ++ rest) s) := step_fetching hl hp b
    rw [List.length_cons, runSteps_succ hstep, ih (by simp at h ⊢; omega), List.append_assoc, List.singleton_append]

/-- R101 to R105: sentinel, header and tag begin a frame. -/
theorem runSteps_preamble (hl : s.Legal) (hs : s.state = Phase.code .sent)
    (hin : s.input = .byte sentinel :: .byte header :: .byte k.tag :: rest) :
    runSteps 3 s = .next (fetching k [] rest s) := by
  have hsent : step s = .next (goTo .hdr (s.reading (.byte header :: .byte k.tag :: rest))) := step_byte_sent hl hin hs
  have hhdr : step (goTo .hdr (s.reading (.byte header :: .byte k.tag :: rest))) =
      .next (goTo .type (s.reading (.byte k.tag :: rest))) :=
    step_byte_hdr (goTo_legal (s := s.reading _) hl .hdr) rfl rfl
  have htype : step (goTo .type (s.reading (.byte k.tag :: rest))) =
      .next (readTag k.tag ((goTo .type (s.reading (.byte k.tag :: rest))).reading rest)) :=
    step_byte_type (goTo_legal (s := s.reading _) hl .type) rfl rfl
  rw [runSteps_succ hsent, runSteps_succ hhdr, runSteps_one, htype, readTag_tag]
  cases k <;> rfl

/-- `len + 3` steps read a frame up to its checksum byte. -/
theorem runSteps_fetch {ck : Byte} (hl : s.Legal) (hs : s.state = Phase.code .sent) (hp : p.length = k.len)
    (hin : s.input = byteSymbols (badFrameBytes k.tag p ck) ++ rest) :
    runSteps (k.len + 3) s = .next (fetching k p (.byte ck :: rest) s) := by
  have hin' : s.input =
      .byte sentinel :: .byte header :: .byte k.tag :: (byteSymbols p ++ .byte ck :: rest) := by
    simp [hin, badFrameBytes, byteSymbols]
  have hcollect := runSteps_fetching (s := s) (p := []) (q := p) (rest := .byte ck :: rest) hl (by simpa using hp)
  rw [Nat.add_comm, runSteps_add (runSteps_preamble hl hs hin'), ← hp, hcollect, List.nil_append]

/-- The registers of a complete fetch spell the frame. -/
theorem fetching_payload (hp : p.length = k.len) : (fetching k p rest s).payload = p := by
  rw [State.payload, fetching_len_toNat, ← hp]
  exact fillBuf_take s.buf (hp ▸ k.len_le)

/-- The step that reads the checksum byte of a complete fetch runs the frame. -/
theorem step_fetched (hl : s.Legal) (hp : p.length = k.len) (ck : Byte) :
    step (fetching k p (.byte ck :: rest) s) = exec (k.frame p ck) (fetching k p rest s) := by
  have hcks : (fetching k p (.byte ck :: rest) s).state = Phase.code .cks := congrArg Phase.code (if_pos hp)
  refine step_runs_frame (fetching_legal hl) hcks (fetching_len_toNat.trans_le k.len_le) rfl ?_
  exact frameOf_eq_some.mpr ⟨k, rfl, (congrArg _ (fetching_payload hp)).trans hp, by rw [fetching_payload hp]⟩

/-- `len + 4` steps are the meaning of the frame at the state its own bytes have set up. -/
theorem runSteps_frame {ck : Byte} (hl : s.Legal) (hs : s.state = Phase.code .sent) (hp : p.length = k.len)
    (hin : s.input = byteSymbols (badFrameBytes k.tag p ck) ++ rest) :
    runSteps (k.len + 4) s = exec (k.frame p ck) (fetching k p rest s) := by
  rw [runSteps_add (runSteps_fetch hl hs hp hin) 1, runSteps_one, step_fetched hl hp]

end Sys2Proof.Machine
end

section
/-! SUPPORT. The statements of whole frames read from the search for a sentinel, settled. -/

namespace Sys2Proof.RunStatements

open Sys2Proof.Machine

/-- Settles O42: the fetch is by induction on the payload, and the checksum byte runs the frame it completes. -/
theorem frameBytesFetchThenRun : Obligations.FrameBytesFetchThenRun := by
  intro i s rest hl hs hin
  have hp : i.payload.length = i.kind.len := i.payload_length
  have hbuf : i.payload.length ≤ 14 := hp ▸ i.kind.len_le
  have hlen : (fetching i.kind i.payload (.byte i.ck :: rest) s).len.toNat = i.payload.length :=
    fetching_len_toNat.trans hp.symm
  refine ⟨fetching i.kind i.payload (.byte i.ck :: rest) s, runSteps_fetch hl hs hp hin, ?_, rfl, fetching_len_toNat,
    congrArg (BitVec.ofNat 4) hp, ?_, ?_, rfl, rfl, rfl, rfl, rfl, rfl, rfl, ?_⟩
  · exact congrArg Phase.code (if_pos hp)
  · exact fetching_payload hp
  · rw [hlen]
    exact fillBuf_drop s.buf hbuf
  · rw [runSteps_frame hl hs hp hin, Instr.kind_frame_payload]
    rfl

/-- Settles O43: the checksum byte of a well-formed frame is what its own payload has left in `acc`. -/
theorem wellFormedFrameIsDelivered : Obligations.WellFormedFrameIsDelivered := by
  intro i s rest hl hs hwf hin
  have hck : i.ck = checksum i.payload := Instr.wellFormed_iff.mp hwf
  refine ⟨raiseFrameOk ⟨i.kind.tag, i.payload⟩ (recordOf i) (fetching i.kind i.payload rest s), ?_,
    rfl, rfl, rfl, rfl, rfl, rfl, rfl, rfl, rfl, rfl⟩
  rw [runSteps_frame hl hs i.payload_length hin, ← hck, Instr.kind_frame_payload]
  exact exec_of_ck_eq hck

/-- Settles O19: the flipped bit leaves another checksum in `acc` than the one sent. -/
theorem singleBitFlipIsDropped : Obligations.SingleBitFlipIsDropped := by
  intro s k p i j rest hl hs hp hi hj hin
  have hflip : (p.modify i (fun b => b ^^^ BitVec.twoPow 8 j)).length = k.len := by rw [List.length_modify, hp]
  refine ⟨raiseCksumFail (fetching k (p.modify i (fun b => b ^^^ BitVec.twoPow 8 j)) rest s), ?_,
    rfl, rfl, rfl, rfl, rfl, rfl, rfl, rfl⟩
  rw [runSteps_frame hl hs hflip hin]
  apply exec_of_ck_ne
  rw [FrameKind.frame_ck]
  exact (checksum_modify_flip_ne (hp ▸ hi) hj).symm

end Sys2Proof.RunStatements
end

section
/-! SUPPORT. What a transaction can do, said once (40_sync_fsm.md R100), and what follows for `frames`
and for the registers of a frame in progress. -/

namespace Sys2Proof.Machine

/-- The cause with which a symbol ends the parse; none for a byte. -/
def Symbol.cause : Symbol → Option TermCause
  | .byte _ => none
  | .endOfStream => some .streamEnd
  | .readError => some .streamError

theorem Symbol.cause_ne_running {sym : Symbol} {c : TermCause} (h : Symbol.cause sym = some c) : c ≠ .running := by
  cases sym with
  | byte => cases h
  | endOfStream | readError =>
    cases h
    decide

/-- A symbol that ends the stream is answered by `onEnd` with its cause. -/
theorem transact_end {sym : Symbol} {c : TermCause} {s : State} (hl : s.Legal) (hc : Symbol.cause sym = some c) :
    transact sym s = onEnd c s := by
  cases sym with
  | byte => cases hc
  | endOfStream =>
    cases hc
    exact transact_endOfStream hl
  | readError =>
    cases hc
    exact transact_readError hl

theorem findSentinel_eq (b : Byte) (s : State) :
    findSentinel b s = goTo (if b = sentinel then .hdr else .sent) s := by
  unfold findSentinel
  split <;> rfl

theorem checkHeader_eq (b : Byte) (s : State) :
    checkHeader b s = goTo (if b = header then .type else .sent) s := by
  unfold checkHeader
  split <;> rfl

/-- The search moves on to `p`: R101 in `S_SENT`, R102 in `S_HDR`. -/
def Searches (b : Byte) (s : State) (p : Phase) : Prop :=
  (s.state = Phase.code .sent ∧ p = if b = sentinel then .hdr else .sent) ∨
    (s.state = Phase.code .hdr ∧ p = if b = header then .type else .sent)

/-- The search moves on to a state outside a frame. -/
theorem Searches.target {b : Byte} {s : State} {p : Phase} (h : Searches b s p) : p ≠ .pay ∧ p ≠ .cks ∧ p ≠ .done := by
  rcases h with ⟨-, rfl⟩ | ⟨-, rfl⟩ <;> split <;> decide

/-- The rows of R100 that answer a next state: the symbol read in `s`, and what it leaves. -/
inductive Effect (s : State) : Symbol → State → Prop
  /-- R101, R102: the search for a sentinel and a header moves on without an event. -/
  | searched (b : Byte) (p : Phase) (hp : Searches b s p) : Effect s (.byte b) (goTo p s)
  /-- R103, R105: a known tag. -/
  | accepted (k : FrameKind) (hs : s.state = Phase.code .type) : Effect s (.byte k.tag) (acceptTag k.tag k s)
  /-- R104: an unknown tag. -/
  | unknown (b : Byte) (hs : s.state = Phase.code .type) (hb : known b = false) :
      Effect s (.byte b) (raiseUnknownTag s)
  /-- R110, R111: a payload byte. -/
  | stored (b : Byte) (hs : s.state = Phase.code .pay) (hlen : s.idx.toNat < s.len.toNat) (hbuf : s.idx.toNat < 14) :
      Effect s (.byte b) (goTo (if s.idx.toNat + 1 = s.len.toNat then .cks else .pay) (storePayloadByte b s))
  /-- R106: the matching checksum byte. -/
  | emitted (k : FrameKind) (hs : s.state = Phase.code .cks) (htag : s.tag = k.tag) (hlen : s.len.toNat = k.len) :
      Effect s (.byte s.acc) (raiseFrameOk ⟨s.tag, s.payload⟩ (recordOf (k.frame s.payload s.acc)) s)
  /-- R107: any other checksum byte. -/
  | dropped (b : Byte) (hs : s.state = Phase.code .cks) (hb : b ≠ s.acc) : Effect s (.byte b) (raiseCksumFail s)
  /-- R112: the stream ends inside a payload. -/
  | cutShort (sym : Symbol) (c : TermCause) (hc : Symbol.cause sym = some c) (hs : s.state = Phase.code .pay) :
      Effect s sym (raiseMalformedEnd c s)
  /-- R108: the stream ends outside a payload. -/
  | terminated (sym : Symbol) (c : TermCause) (hc : Symbol.cause sym = some c) (hs : s.state ≠ Phase.code .pay)
      (hd : s.state ≠ Phase.code .done) : Effect s sym (raiseTerminated c s)

theorem onByte_effect {b : Byte} {s t : State} (h : onByte b s = .next t) : Effect s (.byte b) t := by
  rcases onByte_next h with ⟨hs, rfl⟩ | ⟨hs, rfl⟩ | ⟨hs, rfl⟩ | ⟨hs, hlen, hbuf, rfl⟩ | ⟨hs, hb, rfl⟩ |
    ⟨hs, rfl, k, htag, hlen, rfl⟩
  · exact findSentinel_eq b s ▸ .searched b _ (.inl ⟨hs, rfl⟩)
  · exact checkHeader_eq b s ▸ .searched b _ (.inr ⟨hs, rfl⟩)
  · rcases readTag_cases b s with ⟨k, rfl, he⟩ | ⟨hb, he⟩
    · exact he ▸ .accepted k hs
    · exact he ▸ .unknown b hs (kindOf_eq_none.mp hb)
  · exact .stored b hs hlen hbuf
  · exact .dropped b hs hb
  · rw [FrameKind.frame_payload (State.payload_length hlen), ← htag]
    exact .emitted k hs htag hlen

theorem onEnd_effect {c : TermCause} {sym : Symbol} {s t : State} (hc : Symbol.cause sym = some c)
    (h : onEnd c s = .next t) : Effect s sym t := by
  obtain ⟨hd, ⟨hs, rfl⟩ | ⟨hs, rfl⟩⟩ := onEnd_next h
  · exact .cutShort sym c hc hs
  · exact .terminated sym c hc hs hd

theorem transact_effect {sym : Symbol} {s t : State} (h : transact sym s = .next t) : Effect s sym t := by
  obtain ⟨-, ⟨b, rfl, hb⟩ | ⟨rfl, he⟩ | ⟨rfl, he⟩⟩ := transact_next h
  · exact onByte_effect hb
  · exact onEnd_effect rfl he
  · exact onEnd_effect rfl he

/-- The block counts a payload cut short whatever `idx` is (`MALFORMED_ON_EMPTY_EOS`). -/
theorem shortPayload_counts (c : TermCause) (s : State) :
    shortPayload Config.malformedOnEmptyEos c s = raiseMalformedEnd c s :=
  if_pos (.inr rfl)

/-- In a legal state each effect is a transaction. -/
theorem Effect.transact_eq {sym : Symbol} {s t : State} (hl : s.Legal) (h : Effect s sym t) :
    transact sym s = .next t := by
  cases h with
  | searched b p hp =>
    rcases hp with ⟨hs, rfl⟩ | ⟨hs, rfl⟩
    · rw [transact_byte_sent hl hs, findSentinel_eq]
    · rw [transact_byte_hdr hl hs, checkHeader_eq]
  | accepted k hs => rw [transact_byte_type hl hs, readTag_tag]
  | unknown b hs hb => rw [transact_byte_type hl hs, readTag_unknown hb]
  | stored b hs hlen hbuf => rw [transact_byte_pay hl hs, readPayload_stores hlen hbuf]
  | emitted k hs htag hlen => rw [transact_byte_cks hl hs, readChecksum_acc htag hlen]
  | dropped b hs hb => rw [transact_byte_cks hl hs, readChecksum_of_ne hb]
  | cutShort sym c hc hs => rw [transact_end hl hc, onEnd_of_pay hs, shortPayload_counts]
  | terminated sym c hc hs hd => rw [transact_end hl hc, onEnd_of_not_pay hl hs hd]

/-- A frame is emitted, appended to `frames` and loaded into the output register, or neither of the two changes. -/
theorem Effect.emission {sym : Symbol} {s t : State} (h : Effect s sym t) :
    (t.frames = s.frames ∧ t.fo = s.fo) ∨ ∃ f, t.frames = s.frames ++ [f.frame] ∧ t.fo = some f := by
  cases h with
  | emitted => exact .inr ⟨_, rfl, rfl⟩
  | _ => exact .inl ⟨rfl, rfl⟩

/-- A store writes the byte at `idx` and no other. -/
theorem storePayloadByte_buf_ne {s : State} {b : Byte} {j : Nat} (hj : j < 14)
    (h : (storePayloadByte b s).buf[j] ≠ s.buf[j]) : s.idx.toNat = j ∧ (storePayloadByte b s).buf[j] = b := by
  simp only [storePayloadByte_buf, Vector.getElem_setIfInBounds] at h ⊢
  split at h
  · exact ⟨‹_›, if_pos ‹_›⟩
  · exact absurd rfl h

section Writers

variable {s t : State} {sym : Symbol} (h : Effect s sym t)
include h

/-- R22, R23: `tag` and `len` are written by a known tag. -/
theorem Effect.tag_len_writer (hne : t.tag ≠ s.tag ∨ t.len ≠ s.len) :
    s.state = Phase.code .type ∧ ∃ k : FrameKind, sym = .byte k.tag ∧ t.tag = k.tag ∧ t.len.toNat = k.len := by
  cases h with
  | accepted k hs => exact ⟨hs, k, rfl, rfl, k.len_toNat⟩
  | _ => exact absurd hne (by simp)

/-- R25: `buf[j]` is written by the payload byte read at `idx = j`. -/
theorem Effect.buf_writer (j : Nat) (hj : j < 14) (hne : t.buf[j] ≠ s.buf[j]) :
    s.state = Phase.code .pay ∧ s.idx.toNat = j ∧ sym = .byte t.buf[j] := by
  cases h with
  | stored b hs =>
    obtain ⟨hidx, hb⟩ := storePayloadByte_buf_ne hj hne
    exact ⟨hs, hidx, congrArg Symbol.byte hb.symm⟩
  | _ => exact absurd rfl hne

/-- R26: `acc` is cleared by a known tag and accumulates a payload byte. -/
theorem Effect.acc_writer (hne : t.acc ≠ s.acc) :
    (s.state = Phase.code .type ∧ t.acc = checksumClear) ∨
      (s.state = Phase.code .pay ∧ ∃ b, sym = .byte b ∧ t.acc = s.acc ^^^ b) := by
  cases h with
  | accepted k hs => exact .inl ⟨hs, rfl⟩
  | stored b hs => exact .inr ⟨hs, b, rfl, rfl⟩
  | _ => exact absurd rfl hne

/-- R27: the cause is written on entry to `S_DONE`. -/
theorem Effect.termCause_writer (hne : t.termCause ≠ s.termCause) :
    t.state = Phase.code .done ∧ s.state ≠ Phase.code .done := by
  cases h with
  | cutShort _ _ _ hs => exact ⟨rfl, by rw [hs]; decide⟩
  | terminated _ _ _ _ hd => exact ⟨rfl, hd⟩
  | _ => exact absurd rfl hne

end Writers

end Sys2Proof.Machine
end

section
/-! SUPPORT. The statements of what a transaction changes, settled by its possible effects. -/

namespace Sys2Proof.TransactionStatements

open Sys2Proof.Machine

/-- Settles O49: each event moves its own counter; the other effects move none. -/
theorem countersAreIndependent : Obligations.CountersAreIndependent := by
  intro sym s t h
  cases transact_effect h with
  | unknown => exact .inr (.inl ⟨rfl, rfl, rfl, rfl⟩)
  | cutShort => exact .inr (.inr (.inl ⟨rfl, rfl, rfl, rfl⟩))
  | dropped => exact .inr (.inr (.inr ⟨rfl, rfl, rfl, rfl⟩))
  | _ => exact .inl ⟨rfl, rfl, rfl⟩

/-- Settles O50: only the matching checksum byte appends, and only it raises `FRAME_OK`. -/
theorem framesAreAppendOnly : Obligations.FramesAreAppendOnly := by
  intro sym s t h
  cases transact_effect h with
  | emitted k hs => exact .inr ⟨hs, rfl, rfl, rfl⟩
  | _ => exact .inl ⟨rfl, by simp⟩

/-- Settles O51, register by register. -/
theorem registersHaveOneWriter : Obligations.RegistersHaveOneWriter := by
  intro sym s t h
  have he := transact_effect h
  exact ⟨he.tag_len_writer, he.buf_writer, he.acc_writer, he.termCause_writer⟩

end Sys2Proof.TransactionStatements
end

section
/-! SUPPORT. The invariant (10_state.md R24, R27, R33, R43, R45, 42_checksum.md R182): reset has it, every transaction
and every cycle keeps it, and from a state that has it nothing stops the block (60_exceptions.md R217). -/

namespace Sys2Proof.Machine

/-! ### The invariant at reset and between transactions -/

/-- Reset restores the invariant, whatever the state was. -/
theorem resetBlock_inv (s : State) : (resetBlock s).Inv where
  legal := (by decide : State.reset.Legal)
  cause := (by decide : State.reset.done = true ↔ State.reset.termCause ≠ TermCause.code .running)
  collecting h := absurd h (by decide : State.reset.state ≠ Phase.code .pay)
  complete h := absurd h (by decide : State.reset.state ≠ Phase.code .cks)
  validated f hf := absurd hf List.not_mem_nil
  held h hf := nomatch hf
  strobe h := nomatch h

/-- The invariant does not depend on the stream, and stays when the output register empties or is kept and the strobe
ends. -/
theorem State.Inv.handedOver {s : State} (hi : s.Inv) (rest : List Symbol) {fo : Option HeldFrame}
    (hfo : fo = none ∨ fo = s.fo) : ({ s with input := rest, fo := fo, evValid := false } : State).Inv where
  legal := hi.legal
  cause := hi.cause
  collecting := hi.collecting
  complete := hi.complete
  validated := hi.validated
  held h hf := by
    rcases hfo with rfl | rfl
    · cases hf
    · exact hi.held h hf
  strobe h := nomatch h

theorem State.Inv.reading {s : State} (hi : s.Inv) (rest : List Symbol) : (s.reading rest).Inv :=
  hi.handedOver rest (.inl rfl)

theorem handOver_fo_cases (p : PortIn) (s : State) : (handOver p s).fo = none ∨ (handOver p s).fo = s.fo :=
  ite_eq_or_eq _ _ _

theorem State.Inv.handOver {s : State} (hi : s.Inv) (p : PortIn) : (handOver p s).Inv :=
  hi.handedOver s.input (handOver_fo_cases p s)

/-! ### A frame in progress -/

theorem storePayloadByte_idx_toNat {s : State} (h : s.idx.toNat < 14) (b : Byte) :
    (storePayloadByte b s).idx.toNat = s.idx.toNat + 1 := by
  rw [storePayloadByte_idx, BitVec.toNat_add_of_lt (by simp; omega)]
  rfl

/-- A payload byte read is collected behind those collected before. -/
theorem collected_storePayloadByte {s : State} (h : s.idx.toNat < 14) (b : Byte) :
    (storePayloadByte b s).collected = s.collected ++ [b] := by
  rw [State.collected, storePayloadByte_idx_toNat h, storePayloadByte_buf, setIfInBounds_toList h]
  exact List.take_left' (take_append_singleton_length h)

theorem acceptTag_inFrame (k : FrameKind) (s : State) : (acceptTag k.tag k s).InFrame :=
  ⟨k, kindOf_tag k, k.len_toNat, rfl⟩

theorem storePayloadByte_inFrame {s : State} (h : s.idx.toNat < 14) (hf : s.InFrame) (b : Byte) :
    (storePayloadByte b s).InFrame := by
  obtain ⟨k, htag, hlen, hacc⟩ := hf
  refine ⟨k, htag, hlen, ?_⟩
  rw [collected_storePayloadByte h, checksum_append_singleton, ← hacc]
  rfl

/-! ### The codes -/

theorem Event.code_toNat_le (e : Event) : e.code.toNat ≤ 5 := by
  cases e <;> decide

theorem TermCause.code_ne_unused (c : TermCause) : c.code ≠ 3#2 := by
  cases c <;> decide

theorem TermCause.code_ne_running {c : TermCause} (h : c ≠ .running) : c.code ≠ TermCause.code .running := by
  cases c with
  | running => exact absurd rfl h
  | streamEnd => decide
  | streamError => decide

theorem Phase.ite_code_eq_pay {c : Prop} [Decidable c] :
    (if c then Phase.cks else .pay).code = Phase.code .pay ↔ ¬ c := by
  by_cases h : c <;> simp [h, Phase.code_inj]

theorem Phase.ite_code_eq_cks {c : Prop} [Decidable c] :
    (if c then Phase.cks else .pay).code = Phase.code .cks ↔ c := by
  by_cases h : c <;> simp [h, Phase.code_inj]

/-! ### Every transaction keeps the invariant -/

section Effects

variable {s t : State} {sym : Symbol} (h : Effect s sym t)
include h

/-- No transaction starts in `S_DONE` (R109). -/
theorem Effect.source_ne_done : s.state ≠ Phase.code .done := by
  cases h with
  | searched _ _ hp => rcases hp with ⟨hs, -⟩ | ⟨hs, -⟩ <;> rw [hs] <;> decide
  | terminated _ _ _ _ hd => exact hd
  | accepted _ hs | unknown _ hs | stored _ hs | emitted _ hs | dropped _ hs | cutShort _ _ _ hs => rw [hs]; decide

/-- A transaction ends the parse with a cause, or leaves the cause and goes on. -/
theorem Effect.ends_or_goes_on :
    (t.state = Phase.code .done ∧ ∃ c, c ≠ TermCause.running ∧ t.termCause = c.code) ∨
      (t.state ≠ Phase.code .done ∧ t.termCause = s.termCause) := by
  cases h with
  | cutShort _ c hc | terminated _ c hc => exact .inl ⟨rfl, c, Symbol.cause_ne_running hc, rfl⟩
  | searched _ _ hp => exact .inr ⟨Phase.code_inj.not.mpr hp.target.2.2, rfl⟩
  | accepted => exact .inr ⟨by rw [acceptTag_state]; split <;> decide, rfl⟩
  | stored => exact .inr ⟨by rw [goTo_state]; split <;> decide, rfl⟩
  | _ => exact .inr ⟨by simp [Phase.code], rfl⟩

/-- A frame is in progress only after a known tag, or after one more byte of a frame in progress. -/
theorem Effect.progress (ht : t.state = Phase.code .pay ∨ t.state = Phase.code .cks) :
    (∃ k, t = acceptTag k.tag k s) ∨
      ∃ b, s.state = Phase.code .pay ∧ s.idx.toNat < s.len.toNat ∧ s.idx.toNat < 14 ∧
        t = goTo (if s.idx.toNat + 1 = s.len.toNat then .cks else .pay) (storePayloadByte b s) := by
  cases h with
  | accepted k => exact .inl ⟨k, rfl⟩
  | stored b hs hlen hbuf => exact .inr ⟨b, hs, hlen, hbuf, rfl⟩
  | searched _ p hp =>
    obtain ⟨hpay, hcks, -⟩ := hp.target
    simp [Phase.code_inj, hpay, hcks] at ht
  | _ => simp [Phase.code] at ht

theorem Effect.inFrame (hi : s.Inv) (ht : t.state = Phase.code .pay ∨ t.state = Phase.code .cks) : t.InFrame := by
  rcases h.progress ht with ⟨k, rfl⟩ | ⟨b, hs, -, hbuf, rfl⟩
  · exact acceptTag_inFrame k s
  · exact storePayloadByte_inFrame hbuf (hi.collecting hs).1 b

theorem Effect.idx_lt_len (ht : t.state = Phase.code .pay) : t.idx.toNat < t.len.toNat := by
  rcases h.progress (.inl ht) with ⟨k, rfl⟩ | ⟨b, -, hlen, hbuf, rfl⟩
  · have hk : k.len ≠ 0 := Phase.ite_code_eq_pay.mp ht
    rw [acceptTag_idx, acceptTag_len, k.len_toNat]
    exact Nat.pos_of_ne_zero hk
  · have hmore : s.idx.toNat + 1 ≠ s.len.toNat := Phase.ite_code_eq_pay.mp ht
    rw [goTo_idx, storePayloadByte_idx_toNat hbuf, goTo_len, storePayloadByte_len]
    omega

theorem Effect.idx_eq_len (ht : t.state = Phase.code .cks) : t.idx = t.len := by
  rcases h.progress (.inr ht) with ⟨k, rfl⟩ | ⟨b, -, -, hbuf, rfl⟩
  · have hk : k.len = 0 := Phase.ite_code_eq_cks.mp ht
    rw [acceptTag_idx, acceptTag_len, hk]
  · have hlast : s.idx.toNat + 1 = s.len.toNat := Phase.ite_code_eq_cks.mp ht
    exact BitVec.eq_of_toNat_eq ((storePayloadByte_idx_toNat hbuf b).trans hlast)

/-- Every frame in `frames` is still validated: the one appended has the tag and the length of its kind. -/
theorem Effect.validated (hi : s.Inv) {f : Frame} (hf : f ∈ t.frames) :
    ∃ k, kindOf f.tag = some k ∧ f.payload.length = k.len := by
  cases h with
  | emitted k _ htag hlen =>
    rcases List.mem_append.mp hf with hf | hf
    · exact hi.validated f hf
    · obtain rfl := List.mem_singleton.mp hf
      exact ⟨k, kindOf_eq_some.mpr htag, State.payload_length hlen⟩
  | _ => exact hi.validated f hf

/-- The output register still holds the last frame of `frames`, with its record. -/
theorem Effect.held (hi : s.Inv) {f : HeldFrame} (hf : t.fo = some f) :
    t.frames.getLast? = some f.frame ∧ decodeRecord f.frame.tag f.frame.payload = some f.record := by
  cases h with
  | emitted k _ htag hlen =>
    cases hf
    exact ⟨List.getLast?_concat, htag ▸ decodeRecord_tag (State.payload_length hlen) s.acc⟩
  | _ => exact hi.held f hf

end Effects

/-- Every transaction keeps the invariant. -/
theorem transact_inv {sym : Symbol} {s t : State} (hi : s.Inv) (h : transact sym s = .next t) : t.Inv := by
  have he := transact_effect h
  refine ⟨?_, ?_, fun ht => ⟨he.inFrame hi (.inl ht), he.idx_lt_len ht⟩,
    fun ht => ⟨he.inFrame hi (.inr ht), he.idx_eq_len ht⟩, fun _ => he.validated hi, fun _ => he.held hi,
    (transact_strobe h).mp⟩
  · have hterm : t.termCause ≠ 3#2 := by
      rcases he.ends_or_goes_on with ⟨-, c, -, hc⟩ | ⟨-, hc⟩
      · rw [hc]
        exact c.code_ne_unused
      · rw [hc]
        exact hi.legal.2.1
    obtain ⟨e, p, u, rfl⟩ := transact_raises h
    exact ⟨p.code_toNat_le, hterm, e.code_toNat_le⟩
  · rcases he.ends_or_goes_on with ⟨hd, c, hne, hc⟩ | ⟨hd, hc⟩
    · rw [State.done_iff, hc]
      exact iff_of_true hd (TermCause.code_ne_running hne)
    · rw [hc, ← hi.cause, State.done_iff, State.done_iff]
      exact iff_of_false hd he.source_ne_done

/-- Every cycle keeps the invariant, reset among them. -/
theorem cycleTaking_inv {sym : Symbol} {p : PortIn} {s t : State} (hi : s.Inv) (h : cycleTaking sym p s = .next t) :
    t.Inv := by
  rcases cycleTaking_next h with ⟨-, rfl⟩ | ⟨-, -, hx⟩ | ⟨-, -, -, rfl⟩
  · exact resetBlock_inv s
  · exact transact_inv (hi.handOver p) hx
  · exact hi.handOver p

/-- Every step keeps the invariant. -/
theorem step_inv {s t : State} (hi : s.Inv) (h : step s = .next t) : t.Inv := by
  rcases step_next h with ⟨_, rest, -, -, hx⟩ | ⟨-, -, rfl⟩
  · exact transact_inv (hi.reading rest) hx
  · exact hi.reading s.input

/-! ### Nothing stops a block with the invariant -/

theorem State.Legal.exists_phase {s : State} (hl : s.Legal) : ∃ p : Phase, s.state = p.code := by
  obtain ⟨hs, -, -⟩ := hl
  have hsome : Phase.ofCode s.state ≠ none := fun hnone => absurd (Phase.ofCode_eq_none.mp hnone) (Nat.not_lt.mpr hs)
  obtain ⟨p, hp⟩ := Option.ne_none_iff_exists'.mp hsome
  exact ⟨p, Phase.ofCode_eq_some.mp hp⟩

/-- Before the end of the parse the end of the stream is always answered. -/
theorem onEnd_answers {s : State} (hl : s.Legal) (hd : s.state ≠ Phase.code .done) (c : TermCause) :
    ∃ t, onEnd c s = .next t := by
  by_cases hp : s.state = Phase.code .pay
  · exact ⟨_, onEnd_of_pay hp c⟩
  · exact ⟨_, onEnd_of_not_pay hl hp hd c⟩

/-- Before the end of the parse a byte is always answered: in `S_PAY` there is room for it, and in `S_CKS` the registers
spell a frame. -/
theorem State.Inv.transact_byte_answers {s : State} (hi : s.Inv) (hd : s.state ≠ Phase.code .done) (b : Byte) :
    ∃ t, transact (.byte b) s = .next t := by
  have hl := hi.legal
  obtain ⟨p, hs⟩ := hl.exists_phase
  cases p with
  | sent => exact ⟨_, transact_byte_sent hl hs b⟩
  | hdr => exact ⟨_, transact_byte_hdr hl hs b⟩
  | type => exact ⟨_, transact_byte_type hl hs b⟩
  | pay =>
    obtain ⟨⟨k, -, hlen, -⟩, hroom⟩ := hi.collecting hs
    have hk : k.len ≤ 14 := k.len_le
    exact ⟨_, (transact_byte_pay hl hs b).trans (readPayload_stores hroom (by omega) b)⟩
  | cks =>
    obtain ⟨⟨k, htag, hlen, -⟩, -⟩ := hi.complete hs
    rw [transact_byte_cks hl hs]
    by_cases hb : b = s.acc
    · exact ⟨_, hb ▸ readChecksum_acc (kindOf_eq_some.mp htag) hlen⟩
    · exact ⟨_, readChecksum_of_ne hb⟩
  | done => exact absurd hs hd

theorem State.Inv.transact_answers {s : State} (hi : s.Inv) (hd : s.state ≠ Phase.code .done) (sym : Symbol) :
    ∃ t, transact sym s = .next t := by
  cases sym with
  | byte b => exact hi.transact_byte_answers hd b
  | endOfStream => exact transact_endOfStream hi.legal ▸ onEnd_answers hi.legal hd .streamEnd
  | readError => exact transact_readError hi.legal ▸ onEnd_answers hi.legal hd .streamError

theorem State.Inv.cycleTaking_answers {s : State} (hi : s.Inv) (sym : Symbol) (p : PortIn) :
    ∃ t, cycleTaking sym p s = .next t := by
  cases hr : p.rst with
  | true => exact ⟨_, cycleTaking_of_rst hr sym s⟩
  | false =>
    cases ht : inTransfer p s with
    | true =>
      obtain ⟨-, hd, -⟩ := inReady_iff.mp (inTransfer_iff.mp ht).2
      exact cycleTaking_of_inTransfer ht sym ▸ (hi.handOver p).transact_answers hd sym
    | false => exact ⟨_, cycleTaking_of_no_inTransfer hr ht hi.legal sym⟩

theorem State.Inv.step_answers {s : State} (hi : s.Inv) : ∃ t, step s = .next t := by
  by_cases hd : s.state = Phase.code .done
  · exact ⟨_, step_waits (.inr (State.done_iff.mpr hd)) hi.legal⟩
  · cases hin : s.input with
    | nil => exact ⟨_, step_waits (.inl hin) hi.legal⟩
    | cons sym rest => exact step_reads_of_ne_done hin hd ▸ (hi.reading rest).transact_answers hd sym

end Sys2Proof.Machine
end

section
/-! SUPPORT. The statements of the invariant, settled. -/

namespace Sys2Proof.InvariantStatements

open Sys2Proof.Machine

/-- Settles O46: the reset state is what reset makes of itself. -/
theorem invariantAtReset : Obligations.InvariantAtReset := resetBlock_inv State.reset

/-- Settles O47: a step and a cycle are a transaction, a wait or a reset, and each keeps the invariant. -/
theorem stepKeepsInvariant : Obligations.StepKeepsInvariant := fun _ hi =>
  ⟨fun _ => step_inv hi, fun _ _ _ => cycleTaking_inv hi⟩

/-- Settles O48: under the invariant every row of R100 that is met has an answer. -/
theorem nothingStopsTheBlock : Obligations.NothingStopsTheBlock := fun _ hi =>
  ⟨hi.step_answers, hi.cycleTaking_answers, fun sym hd => hi.transact_answers (State.done_eq_false_iff.mp hd) sym⟩

end Sys2Proof.InvariantStatements
end

section
/-! SUPPORT. Two runs that differ only in the registers of a frame in progress (70_reset_and_hazards.md R230, I4): from
outside a frame they stay alike, because a known tag overwrites what they differ in before anything reads it. -/

namespace Sys2Proof.Machine

open Host (Outcome)

/-- The registers of the frame in progress agree, `buf` as far as it has been collected. -/
structure SameFrame (s t : State) : Prop where
  tag : s.tag = t.tag
  len : s.len = t.len
  idx : s.idx = t.idx
  acc : s.acc = t.acc
  collected : s.collected = t.collected

/-- Two states show the same and agree on the frame in progress where there is one; in `S_CKS` it is complete. -/
structure Alike (s t : State) : Prop where
  visible : s.visible = t.visible
  frame : s.state = Phase.code .pay ∨ s.state = Phase.code .cks → SameFrame s t
  complete : s.state = Phase.code .cks → s.idx = s.len

/-- Two outcomes are alike: the next states are, or both stop for the same reason. -/
inductive AlikeOutcome : Outcome State Fault Refusal → Outcome State Fault Refusal → Prop
  | next {s t : State} (h : Alike s t) : AlikeOutcome (.next s) (.next t)
  | fault (f : Fault) : AlikeOutcome (.fault f) (.fault f)
  | refused (r : Refusal) : AlikeOutcome (.refused r) (.refused r)

theorem AlikeOutcome.visibleOutcome_eq {o o' : Outcome State Fault Refusal} (h : AlikeOutcome o o') :
    visibleOutcome o = visibleOutcome o' := by
  cases h with
  | next h => exact congrArg Outcome.next h.visible
  | fault => rfl
  | refused => rfl

/-! ### What alike states share -/

/-- Outside a frame, showing the same is enough. -/
theorem Alike.of_outside {s t : State} {p : Phase} (hv : s.visible = t.visible) (hs : s.state = p.code)
    (hp : p ≠ .pay ∧ p ≠ .cks) : Alike s t where
  visible := hv
  frame hf := by
    rw [hs, Phase.code_inj, Phase.code_inj] at hf
    exact absurd hf (not_or.mpr hp)
  complete hc := absurd (Phase.code_inj.mp (hs.symm.trans hc)) hp.2

section Shared

variable {s t : State} (h : Alike s t)
include h

theorem Alike.state_eq : s.state = t.state := (congrArg State.state h.visible :)

theorem Alike.input_eq : s.input = t.input := (congrArg State.input h.visible :)

theorem Alike.illegal_eq : s.illegal = t.illegal := (congrArg State.illegal h.visible :)

theorem Alike.legal (hl : s.Legal) : t.Legal := by
  rwa [← State.illegal_eq_none, ← h.illegal_eq, State.illegal_eq_none]

theorem Alike.reading (rest : List Symbol) : Alike (s.reading rest) (t.reading rest) where
  visible := congrArg (State.reading · rest) h.visible
  frame hf :=
    have same := h.frame hf
    ⟨same.tag, same.len, same.idx, same.acc, same.collected⟩
  complete := h.complete

/-- A complete frame has the same payload in both. -/
theorem Alike.payload_eq (hs : s.state = Phase.code .cks) : s.payload = t.payload := by
  have same := h.frame (.inr hs)
  have hidx : s.idx = s.len := h.complete hs
  have hidx' : t.idx = t.len := by rw [← same.idx, ← same.len, hidx]
  calc s.payload
    _ = s.collected := by rw [State.payload, State.collected, hidx]
    _ = t.collected := same.collected
    _ = t.payload := by rw [State.payload, State.collected, hidx']

/-! ### What a transaction does to alike states -/

theorem Alike.goTo {p : Phase} (hp : p ≠ .pay ∧ p ≠ .cks) : Alike (goTo p s) (goTo p t) :=
  .of_outside (congrArg (Machine.goTo p) h.visible) rfl hp

theorem Alike.findSentinel (b : Byte) : Alike (findSentinel b s) (findSentinel b t) := by
  unfold Machine.findSentinel
  split <;> exact h.goTo (by decide)

theorem Alike.checkHeader (b : Byte) : Alike (checkHeader b s) (checkHeader b t) := by
  unfold Machine.checkHeader
  split <;> exact h.goTo (by decide)

theorem Alike.raiseCksumFail : Alike (raiseCksumFail s) (raiseCksumFail t) :=
  .of_outside (p := .sent) (congrArg Machine.raiseCksumFail h.visible) rfl (by decide)

theorem Alike.raiseTerminated (c : TermCause) : Alike (raiseTerminated c s) (raiseTerminated c t) :=
  .of_outside (p := .done) (congrArg (Machine.raiseTerminated c) h.visible) rfl (by decide)

theorem Alike.raiseMalformedEnd (c : TermCause) : Alike (raiseMalformedEnd c s) (raiseMalformedEnd c t) :=
  .of_outside (p := .done) (congrArg (Machine.raiseMalformedEnd c) h.visible) rfl (by decide)

/-- A known tag overwrites all that two states outside a frame may differ in, but for the bytes of `buf`, none of
which is collected yet. -/
theorem Alike.readTag (hs : s.state = Phase.code .type) (b : Byte) : Alike (readTag b s) (readTag b t) := by
  rcases readTag_cases b s with ⟨k, rfl, -⟩ | ⟨hb, -⟩
  · rw [readTag_tag, readTag_tag]
    exact ⟨congrArg (Machine.goTo _) h.visible, fun _ => ⟨rfl, rfl, rfl, rfl, rfl⟩,
      (Effect.accepted k hs).idx_eq_len⟩
  · rw [readTag_unknown (kindOf_eq_none.mp hb), readTag_unknown (kindOf_eq_none.mp hb)]
    exact .of_outside (p := .sent) (congrArg raiseUnknownTag h.visible) rfl (by decide)

theorem Alike.readPayload (hs : s.state = Phase.code .pay) (b : Byte) :
    AlikeOutcome (readPayload b s) (readPayload b t) := by
  have same := h.frame (.inl hs)
  by_cases hroom : s.idx.toNat < s.len.toNat ∧ s.idx.toNat < 14
  · obtain ⟨hlen, hbuf⟩ := hroom
    have hbuf' : t.idx.toNat < 14 := same.idx ▸ hbuf
    rw [readPayload_stores hlen hbuf, readPayload_stores (same.idx ▸ same.len ▸ hlen) hbuf', ← same.idx, ← same.len]
    refine .next ⟨congrArg (Machine.goTo _) h.visible, fun _ => ⟨same.tag, same.len, ?_, ?_, ?_⟩,
      (Effect.stored b hs hlen hbuf).idx_eq_len⟩
    · exact congrArg (· + 1#4) same.idx
    · exact congrArg (checksumAccumulate · b) same.acc
    · calc (storePayloadByte b s).collected
        _ = s.collected ++ [b] := collected_storePayloadByte hbuf b
        _ = t.collected ++ [b] := by rw [same.collected]
        _ = (storePayloadByte b t).collected := (collected_storePayloadByte hbuf' b).symm
  · have hfault : Machine.readPayload b s = .fault .payloadIndex := if_neg hroom
    have hfault' : Machine.readPayload b t = .fault .payloadIndex := if_neg (same.idx ▸ same.len ▸ hroom)
    rw [hfault, hfault']
    exact .fault _

theorem Alike.exec (hacc : s.acc = t.acc) (i : Instr) : AlikeOutcome (exec i s) (exec i t) := by
  by_cases hck : i.ck = t.acc
  · rw [exec_of_ck_eq hck, exec_of_ck_eq (hck.trans hacc.symm)]
    exact .next (.of_outside (p := .sent) (congrArg (raiseFrameOk _ _) h.visible) rfl (by decide))
  · rw [exec_of_ck_ne hck, exec_of_ck_ne (hacc ▸ hck)]
    exact .next h.raiseCksumFail

theorem Alike.readChecksum (hs : s.state = Phase.code .cks) (b : Byte) :
    AlikeOutcome (readChecksum b s) (readChecksum b t) := by
  have same := h.frame (.inr hs)
  have hfetched : fetchedFrame b s = fetchedFrame b t := by
    rw [fetchedFrame, fetchedFrame, same.len, same.tag, h.payload_eq hs]
  unfold Machine.readChecksum
  rw [hfetched, same.acc]
  cases fetchedFrame b t with
  | some i => exact h.exec same.acc i
  | none =>
    by_cases hb : checksumMatch b t.acc = true
    · simpa only [hb] using .refused _
    · simpa only [hb] using .next h.raiseCksumFail

theorem Alike.transact_byte (hl : s.Legal) (b : Byte) : AlikeOutcome (transact (.byte b) s) (transact (.byte b) t) := by
  have hl' := h.legal hl
  obtain ⟨p, hs⟩ := hl.exists_phase
  have hs' : t.state = p.code := h.state_eq ▸ hs
  cases p with
  | sent =>
    rw [transact_byte_sent hl hs, transact_byte_sent hl' hs']
    exact .next (h.findSentinel b)
  | hdr =>
    rw [transact_byte_hdr hl hs, transact_byte_hdr hl' hs']
    exact .next (h.checkHeader b)
  | type =>
    rw [transact_byte_type hl hs, transact_byte_type hl' hs']
    exact .next (h.readTag hs b)
  | pay =>
    rw [transact_byte_pay hl hs, transact_byte_pay hl' hs']
    exact h.readPayload hs b
  | cks =>
    rw [transact_byte_cks hl hs, transact_byte_cks hl' hs']
    exact h.readChecksum hs b
  | done =>
    rw [transact_of_done hl hs, transact_of_done hl' hs']
    exact .refused _

theorem Alike.onEnd (hl : s.Legal) (hd : s.state ≠ Phase.code .done) (c : TermCause) :
    AlikeOutcome (onEnd c s) (onEnd c t) := by
  by_cases hp : s.state = Phase.code .pay
  · rw [onEnd_of_pay hp, onEnd_of_pay (h.state_eq ▸ hp), shortPayload_counts, shortPayload_counts]
    exact .next (h.raiseMalformedEnd c)
  · rw [onEnd_of_not_pay hl hp hd, onEnd_of_not_pay (h.legal hl) (h.state_eq ▸ hp) (h.state_eq ▸ hd)]
    exact .next (h.raiseTerminated c)

theorem Alike.transact (sym : Symbol) : AlikeOutcome (transact sym s) (transact sym t) := by
  cases hill : s.illegal with
  | some r =>
    rw [transact_of_illegal hill, transact_of_illegal (h.illegal_eq ▸ hill)]
    exact .refused r
  | none =>
    have hl := State.illegal_eq_none.mp hill
    have hl' := h.legal hl
    by_cases hd : s.state = Phase.code .done
    · rw [transact_of_done hl hd, transact_of_done hl' (h.state_eq ▸ hd)]
      exact .refused _
    · cases sym with
      | byte b => exact h.transact_byte hl b
      | endOfStream =>
        rw [transact_endOfStream hl, transact_endOfStream hl']
        exact h.onEnd hl hd .streamEnd
      | readError =>
        rw [transact_readError hl, transact_readError hl']
        exact h.onEnd hl hd .streamError

theorem Alike.step : AlikeOutcome (step s) (step t) := by
  cases hill : s.illegal with
  | some r =>
    rw [step_of_illegal hill, step_of_illegal (h.illegal_eq ▸ hill)]
    exact .refused r
  | none =>
    have hl := State.illegal_eq_none.mp hill
    by_cases hw : s.input = [] ∨ s.done = true
    · have hw' : t.input = [] ∨ t.done = true := by
        rwa [← h.input_eq, State.done_iff, ← h.state_eq, ← State.done_iff]
      rw [step_waits hw hl, step_waits hw' (h.legal hl)]
      exact .next (h.input_eq ▸ h.reading s.input)
    · obtain ⟨hin, hd⟩ := not_or.mp hw
      rw [State.done_iff] at hd
      obtain ⟨sym, rest, hin⟩ := List.exists_cons_of_ne_nil hin
      rw [step_reads_of_ne_done hin hd, step_reads_of_ne_done (h.input_eq ▸ hin) (h.state_eq ▸ hd)]
      exact (h.reading rest).transact sym

end Shared

theorem Alike.runSteps {s t : State} (h : Alike s t) (n : Nat) : AlikeOutcome (runSteps n s) (runSteps n t) := by
  induction n generalizing s t with
  | zero => exact .next h
  | succ n ih =>
    have hstep := h.step
    unfold Machine.runSteps
    generalize Machine.step s = o, Machine.step t = o' at hstep
    cases hstep with
    | next h' => exact ih h'
    | fault f => exact .fault f
    | refused r => exact .refused r

end Sys2Proof.Machine
end

section
/-! SUPPORT. The statement of noninterference, settled. -/

namespace Sys2Proof.NoninterferenceStatements

open Sys2Proof.Machine

/-- Settles O53: outside a frame, states that show the same are alike, and alike states stay alike. -/
theorem staleRegistersAreInvisible : Obligations.StaleRegistersAreInvisible := by
  intro n s t hv hp hc
  have halike : Alike s t := ⟨hv, fun hf => absurd hf (not_or.mpr ⟨hp, hc⟩), fun h => absurd h hc⟩
  exact (halike.runSteps n).visibleOutcome_eq

end Sys2Proof.NoninterferenceStatements
end

section
/-! SUPPORT. A run of cycles against the transactions of the symbols it took (00_scope.md R7, 10_state.md R43, R47): the
port registers change no transaction, and each cycle transfers the frame it found in the output register or keeps it. -/

namespace Sys2Proof.Machine

/-! ### The port registers change no transaction -/

/-- All registers but those of the ports. -/
def State.registers (s : State) : State := { s with fo := none, evValid := false }

/-- Two states that agree in these differ in the port registers at most. -/
theorem State.registers_eq_iff {s t : State} :
    s.registers = t.registers ↔ { s with fo := t.fo, evValid := t.evValid } = t :=
  ⟨fun h => congrArg (fun w => { w with fo := t.fo, evValid := t.evValid }) h, fun h => (congrArg State.registers h :)⟩

theorem handOver_registers (p : PortIn) (s : State) : (handOver p s).registers = s.registers := rfl

/-- An effect is the same under other port registers. -/
theorem Effect.with_ports {sym : Symbol} {s t : State} (h : Effect s sym t) (fo : Option HeldFrame) (evValid : Bool) :
    ∃ t', Effect { s with fo := fo, evValid := evValid } sym t' ∧ t.registers = t'.registers := by
  cases h with
  | searched b p hp => exact ⟨_, .searched b p hp, rfl⟩
  | accepted k hs => exact ⟨_, .accepted k hs, rfl⟩
  | unknown b hs hb => exact ⟨_, .unknown b hs hb, rfl⟩
  | stored b hs hlen hbuf => exact ⟨_, .stored b hs hlen hbuf, rfl⟩
  | emitted k hs htag hlen => exact ⟨_, .emitted k hs htag hlen, rfl⟩
  | dropped b hs hb => exact ⟨_, .dropped b hs hb, rfl⟩
  | cutShort sym c hc hs => exact ⟨_, .cutShort sym c hc hs, rfl⟩
  | terminated sym c hc hs hd => exact ⟨_, .terminated sym c hc hs hd, rfl⟩

theorem transact_of_registers_eq {sym : Symbol} {s s' t : State} (hr : s.registers = s'.registers)
    (h : transact sym s = .next t) : ∃ t', transact sym s' = .next t' ∧ t.registers = t'.registers := by
  obtain ⟨hl, -⟩ := transact_next h
  obtain ⟨t', he, ht⟩ := (transact_effect h).with_ports s'.fo s'.evValid
  rw [State.registers_eq_iff.mp hr] at he
  have hl' : s'.Legal := by rwa [← State.registers_eq_iff.mp hr]
  exact ⟨t', he.transact_eq hl', ht⟩

theorem transactAll_cons {sym : Symbol} {rest : List Symbol} {s t : State} (h : transact sym s = .next t) :
    transactAll (sym :: rest) s = transactAll rest t := by
  simp [transactAll, h]

theorem transactAll_of_registers_eq {syms : List Symbol} {s s' u : State} (hr : s.registers = s'.registers)
    (h : transactAll syms s = .next u) : ∃ u', transactAll syms s' = .next u' ∧ u.registers = u'.registers := by
  induction syms generalizing s s' with
  | nil =>
    cases h
    exact ⟨s', rfl, hr⟩
  | cons sym rest ih =>
    cases ht : transact sym s with
    | next t =>
      obtain ⟨t', ht', hrt⟩ := transact_of_registers_eq hr ht
      rw [transactAll_cons ht] at h
      rw [transactAll_cons ht']
      exact ih hrt h
    | fault f => simp [transactAll, ht] at h
    | refused r => simp [transactAll, ht] at h

/-! ### One cycle -/

/-- The symbols a cycle takes: the one named, or none. -/
def takenIn (sym : Symbol) (p : PortIn) (s : State) : List Symbol := if inTransfer p s then [sym] else []

/-- The frames a cycle transfers: the one held, or none. -/
def sentIn (p : PortIn) (s : State) : List HeldFrame := if foTransfer p s then s.fo.toList else []

/-- A cycle without reset, followed by transactions, is the transactions of what it takes and of those that follow. -/
theorem cycleTaking_refines {sym : Symbol} {p : PortIn} {s t u : State} {rest : List Symbol} (hrst : p.rst = false)
    (h : cycleTaking sym p s = .next t) (hu : transactAll rest t = .next u) :
    ∃ u', transactAll (takenIn sym p s ++ rest) s = .next u' ∧ u.registers = u'.registers := by
  rcases cycleTaking_next h with ⟨hr, -⟩ | ⟨-, ht, hx⟩ | ⟨-, ht, -, rfl⟩
  · exact absurd hr (by simp [hrst])
  · rw [takenIn, if_pos ht]
    exact transactAll_of_registers_eq (handOver_registers p s) ((transactAll_cons hx).trans hu)
  · rw [takenIn, ht]
    exact transactAll_of_registers_eq (handOver_registers p s) hu

/-- The frame held is transferred in the cycle or still held after the hand-over. -/
theorem sentIn_append_handOver (p : PortIn) (s : State) : sentIn p s ++ (handOver p s).fo.toList = s.fo.toList := by
  rw [sentIn, handOver_fo]
  split <;> simp

/-- Where a symbol is taken the output register has emptied before (R42). -/
theorem handOver_fo_of_inTransfer {p : PortIn} {s : State} (h : inTransfer p s = true) : (handOver p s).fo = none := by
  obtain ⟨-, -, hfo⟩ := inReady_iff.mp (inTransfer_iff.mp h).2
  rcases hfo with hfo | hready
  · simp [hfo]
  · rw [handOver_ready hready]

/-- A cycle without reset emits at most one frame, and what was held and what it emits is transferred or held. -/
theorem cycleTaking_conserves {sym : Symbol} {p : PortIn} {s t : State} (hrst : p.rst = false)
    (h : cycleTaking sym p s = .next t) : ∃ emitted : List HeldFrame,
      t.frames = s.frames ++ emitted.map HeldFrame.frame ∧ s.fo.toList ++ emitted = sentIn p s ++ t.fo.toList := by
  rcases cycleTaking_next h with ⟨hr, -⟩ | ⟨-, ht, hx⟩ | ⟨-, -, -, rfl⟩
  · exact absurd hr (by simp [hrst])
  · have hsent := sentIn_append_handOver p s
    rcases (transact_effect hx).emission with ⟨hframes, hfo⟩ | ⟨f, hframes, hfo⟩
    · exact ⟨[], by simpa using hframes, by rw [List.append_nil, hfo, hsent]⟩
    · rw [handOver_fo_of_inTransfer ht] at hsent
      exact ⟨[f], hframes, by simp [hfo, ← hsent]⟩
  · exact ⟨[], by simp, by rw [List.append_nil, sentIn_append_handOver]⟩

/-! ### Runs of cycles -/

/-- A run of cycles is its first cycle and the run of the others. -/
theorem runCycles_cons {c : PortCycle} {cs : List PortCycle} {l : Link} {tr : CycleTrace}
    (h : runCycles (c :: cs) l = some tr) : ∃ m rest, cycleTaking c.taken c.signals l.block = .next m.block ∧
      runCycles cs m = some rest ∧ tr.final = rest.final ∧
      tr.taken = takenIn c.taken c.signals l.block ++ rest.taken ∧ tr.sent = sentIn c.signals l.block ++ rest.sent := by
  unfold runCycles at h
  split at h
  · cases h
  · rename_i m hm
    obtain ⟨-, hcycle, -⟩ := Link.next_eq_some.mp hm
    obtain ⟨rest, hrest, rfl⟩ := Option.map_eq_some_iff.mp h
    exact ⟨m, rest, hcycle, hrest, rfl, rfl, rfl⟩

section Runs

variable {cs : List PortCycle} {l : Link} {tr : CycleTrace} (hrst : ∀ c ∈ cs, c.signals.rst = false)
  (h : runCycles cs l = some tr)
include hrst h

/-- The run leaves what the transactions of the symbols taken leave, but for the port registers. -/
theorem runCycles_refines : ∃ u, transactAll tr.taken l.block = .next u ∧ tr.final.registers = u.registers := by
  induction cs generalizing l tr with
  | nil =>
    cases h
    exact ⟨l.block, rfl, rfl⟩
  | cons c cs ih =>
    obtain ⟨m, rest, hcycle, hrest, hfinal, htaken, -⟩ := runCycles_cons h
    obtain ⟨u, hu, hur⟩ := ih (fun c' hc' => hrst c' (List.mem_cons_of_mem c hc')) hrest
    obtain ⟨u', hu', hur'⟩ := cycleTaking_refines (hrst c List.mem_cons_self) hcycle hu
    exact ⟨u', htaken ▸ hu', hfinal ▸ hur.trans hur'⟩

/-- No frame is lost or transferred twice: those held and emitted are those transferred and still held, in order. -/
theorem runCycles_conserves : ∃ emitted : List HeldFrame,
    tr.final.frames = l.block.frames ++ emitted.map HeldFrame.frame ∧
      l.block.fo.toList ++ emitted = tr.sent ++ tr.final.fo.toList := by
  induction cs generalizing l tr with
  | nil =>
    cases h
    exact ⟨[], by simp, by simp⟩
  | cons c cs ih =>
    obtain ⟨m, rest, hcycle, hrest, hfinal, -, hsent⟩ := runCycles_cons h
    obtain ⟨first, hframes, hfirst⟩ := cycleTaking_conserves (hrst c List.mem_cons_self) hcycle
    obtain ⟨later, hframes', hlater⟩ := ih (fun c' hc' => hrst c' (List.mem_cons_of_mem c hc')) hrest
    refine ⟨first ++ later, ?_, ?_⟩
    · rw [hfinal, hframes', hframes, List.map_append, List.append_assoc]
    · rw [← List.append_assoc, hfirst, List.append_assoc, hlater, hsent, hfinal, List.append_assoc]

end Runs

end Sys2Proof.Machine
end

section
/-! SUPPORT. The statement of port refinement, settled. -/

namespace Sys2Proof.RefinementStatements

open Sys2Proof.Machine

/-- Settles O59, by induction on the cycles: one for the registers, one for the frames. -/
theorem portsRefineTransactions : Obligations.PortsRefineTransactions := by
  intro cs l tr hrst h
  obtain ⟨u, hu, hregisters⟩ := runCycles_refines hrst h
  obtain ⟨emitted, hframes, hconserved⟩ := runCycles_conserves hrst h
  exact ⟨u, emitted, hu, State.registers_eq_iff.mp hregisters, hframes, hconserved⟩

end Sys2Proof.RefinementStatements
end

section
/-! SUPPORT. With a fair consumer and a stable producer that offers the end, the run ends (70_reset_and_hazards.md R244,
40_sync_fsm.md R116): the offer of the end stands until the consumer is ready, and `S_DONE` stands until the last frame
is transferred. -/

namespace Sys2Proof.Machine

/-! ### The end of the parse -/

/-- A transaction on a symbol that ends the stream leads to `S_DONE`. -/
theorem transact_end_done {sym : Symbol} {s t : State} (hsym : Symbol.ends sym = true) (h : transact sym s = .next t) :
    t.state = Phase.code .done := by
  cases transact_effect h with
  | cutShort | terminated => rfl
  | _ => cases hsym

/-- A cycle that takes the end of the stream leads to `S_DONE`. -/
theorem cycleTaking_end_done {sym : Symbol} {p : PortIn} {s t : State} (hsym : Symbol.ends sym = true)
    (ht : inTransfer p s = true) (h : cycleTaking sym p s = .next t) : t.state = Phase.code .done :=
  transact_end_done hsym ((cycleTaking_of_inTransfer ht sym).symm.trans h)

/-- A cycle without reset in `S_DONE` is the hand-over of the port registers. -/
theorem cycleTaking_of_done {sym : Symbol} {p : PortIn} {s t : State} (hrst : p.rst = false)
    (hs : s.state = Phase.code .done) (h : cycleTaking sym p s = .next t) : t = handOver p s := by
  have ht : inTransfer p s = false := inTransfer_eq_false_iff.mpr (.inr (inReady_of_done hs p))
  rcases cycleTaking_next h with ⟨hr, -⟩ | ⟨-, ht', -⟩ | ⟨-, -, -, rfl⟩
  · exact absurd hr (by simp [hrst])
  · exact absurd ht' (by simp [ht])
  · rfl

/-! ### Unending runs -/

section Run

variable {env : Nat → PortCycle} {s : State}

theorem portRun_succ {n : Nat} {l : Link} (h : portRun env s n = some l) : portRun env s (n + 1) = l.next (env n) := by
  rw [portRun, h]

/-- Under the invariant a run of admitted symbols never stops, and keeps the invariant. -/
theorem exists_portRun (hi : s.Inv) (ha : AdmittedRun env s) (n : Nat) :
    ∃ l, portRun env s n = some l ∧ l.block.Inv := by
  induction n with
  | zero => exact ⟨⟨s, []⟩, rfl, hi⟩
  | succ n ih =>
    obtain ⟨l, hl, hli⟩ := ih
    obtain ⟨t, ht⟩ := hli.cycleTaking_answers (env n).taken (env n).signals
    refine ⟨⟨t, stillOffered l.offered (env n).signals l.block⟩, ?_, cycleTaking_inv hli ht⟩
    rw [portRun_succ hl]
    exact Link.next_eq_some.mpr ⟨ha n l hl, ht, rfl⟩

/-- The cycle between two states of a run. -/
theorem portRun_cycle {n : Nat} {l m : Link} (hl : portRun env s n = some l) (hm : portRun env s (n + 1) = some m) :
    cycleTaking (env n).taken (env n).signals l.block = .next m.block := by
  rw [portRun_succ hl] at hm
  obtain ⟨-, hcycle, -⟩ := Link.next_eq_some.mp hm
  exact hcycle

/-- The block is in `S_DONE` before cycle `n`. -/
def DoneAt (env : Nat → PortCycle) (s : State) (n : Nat) : Prop :=
  ∃ l, portRun env s n = some l ∧ l.block.state = Phase.code .done

/-- The end of the stream is offered in cycle `n`. -/
def EndOfferedAt (env : Nat → PortCycle) (n : Nat) : Prop :=
  (env n).signals.inValid = true ∧ Symbol.ends (env n).signals.symbol = true

variable (hi : s.Inv) (ha : AdmittedRun env s)
include hi ha

/-- An offer of the end that is taken ends the parse. -/
theorem EndOfferedAt.taken (hstable : StableProducer env s) {n : Nat} {l : Link} (h : EndOfferedAt env n)
    (hl : portRun env s n = some l) (hr : inReady (env n).signals l.block = true) : DoneAt env s (n + 1) := by
  obtain ⟨hv, hends⟩ := h
  obtain ⟨l', hl', -⟩ := exists_portRun hi ha (n + 1)
  have htaken : (env n).taken = (env n).signals.symbol := hstable.taken_eq hl (ha n l hl) hv
  exact ⟨l', hl', cycleTaking_end_done (htaken ▸ hends) (inTransfer_iff.mpr ⟨hv, hr⟩) (portRun_cycle hl hl')⟩

/-- An offer of the end ends the parse in this cycle or stands in the next. -/
theorem EndOfferedAt.next (hstable : StableProducer env s) (hkept : OfferKept env s) {n : Nat}
    (h : EndOfferedAt env n) : DoneAt env s (n + 1) ∨ EndOfferedAt env (n + 1) := by
  obtain ⟨l, hl, -⟩ := exists_portRun hi ha n
  cases hr : inReady (env n).signals l.block with
  | true => exact .inl (h.taken hi ha hstable hl hr)
  | false =>
    obtain ⟨hv, hends⟩ := h
    have hwait : Waiting env s n := ⟨l, hl, hv, hr⟩
    have hv' : (env (n + 1)).signals.inValid = true := hkept n hwait
    exact .inr ⟨hv', PortIn.symbol_congr (hstable n hwait hv') ▸ hends⟩

variable (hrst : ∀ n, (env n).signals.rst = false)
include hrst

/-- A parse that has ended stays ended. -/
theorem DoneAt.mono {n m : Nat} (hnm : n ≤ m) (h : DoneAt env s n) : DoneAt env s m := by
  induction m, hnm using Nat.le_induction with
  | base => exact h
  | succ m _ ih =>
    obtain ⟨l, hl, hd⟩ := ih
    obtain ⟨l', hl', -⟩ := exists_portRun hi ha (m + 1)
    have hnext : l'.block = handOver (env m).signals l.block :=
      cycleTaking_of_done (hrst m) hd (portRun_cycle hl hl')
    exact ⟨l', hl', hnext ▸ hd⟩

/-- Once the parse has ended, a ready consumer empties the output register. -/
theorem DoneAt.runOver {n : Nat} (h : DoneAt env s n) (hready : (env n).signals.foReady = true) :
    ∃ l, portRun env s (n + 1) = some l ∧ l.block.state = Phase.code .done ∧ l.block.fo = none := by
  obtain ⟨l, hl, hd⟩ := h
  obtain ⟨l', hl', -⟩ := exists_portRun hi ha (n + 1)
  have hnext : l'.block = handOver (env n).signals l.block := cycleTaking_of_done (hrst n) hd (portRun_cycle hl hl')
  rw [handOver_ready hready] at hnext
  exact ⟨l', hl', hnext ▸ hd, hnext ▸ rfl⟩

variable (hstable : StableProducer env s) (hkept : OfferKept env s)
include hstable hkept

/-- From an offer of the end on, the parse has ended or the offer stands. -/
theorem EndOfferedAt.stands {n m : Nat} (hnm : n ≤ m) (h : EndOfferedAt env n) :
    DoneAt env s m ∨ EndOfferedAt env m := by
  induction m, hnm using Nat.le_induction with
  | base => exact .inr h
  | succ m _ ih =>
    rcases ih with hd | ho
    · exact .inl (hd.mono hi ha hrst (Nat.le_succ m))
    · exact ho.next hi ha hstable hkept

/-- A fair consumer lets the offer of the end be taken. -/
theorem EndOfferedAt.eventually_done (hfair : FairConsumer env) {n : Nat} (h : EndOfferedAt env n) :
    ∃ m, DoneAt env s m := by
  obtain ⟨m, hnm, hready⟩ := hfair n
  rcases h.stands hi ha hrst hstable hkept hnm with hd | ho
  · exact ⟨m, hd⟩
  · obtain ⟨l, hl, -⟩ := exists_portRun hi ha m
    by_cases hd : l.block.state = Phase.code .done
    · exact ⟨m, l, hl, hd⟩
    · exact ⟨m + 1, ho.taken hi ha hstable hl (inReady_iff.mpr ⟨hrst m, hd, .inr hready⟩)⟩

end Run

end Sys2Proof.Machine
end

section
/-! SUPPORT. The statement of liveness, settled. -/

namespace Sys2Proof.LivenessStatements

open Sys2Proof.Machine

/-- Settles O60: the parse ends when the consumer is first ready under the standing offer of the end, and the run is
over when the consumer is next ready after that. -/
theorem fairParseEnds : Obligations.FairParseEnds := by
  intro env s hi hrst ha hfair hstable hkept hend
  obtain ⟨n, hoffer⟩ := hend
  obtain ⟨m, hdone⟩ := EndOfferedAt.eventually_done hi ha hrst hstable hkept hfair (n := n) hoffer
  obtain ⟨q, hmq, hready⟩ := hfair m
  obtain ⟨l, hl, hd, hfo⟩ := (hdone.mono hi ha hrst hmq).runOver hi ha hrst hready
  have hd' : l.block.done = true := State.done_iff.mpr hd
  exact ⟨q + 1, l, hl, by simp [State.runOver, hd', hfo], by simp [State.result, hd']⟩

end Sys2Proof.LivenessStatements
end
